-- ==== Sys2Proof/Word.lean ====
section
/-!
DEFINITION. The word types of the TA-6412 and the fixed-size table that holds a fixed number of like things
(128 entries, 128 protection records, 32 slots, 16 event records, 4 trunks): a list with its length, so that it is
plain data and no index is ever out of range.
-/

namespace Sys2Proof

/-- An octet of a message or payload (R132). -/
abbrev Byte := BitVec 8

/-- A 16-bit quantity: a sample, a check, an edit count, an output frame number, an event detail. -/
abbrev Half := BitVec 16

/-- A word of a wire frame (R183). -/
abbrev Word18 := BitVec 18

/-- A fixed number `n` of like things, in index order. -/
structure Table (n : Nat) (α : Type) where
  items : List α
  size : items.length = n
deriving DecidableEq, Repr

namespace Table

variable {n : Nat} {α : Type}

/-- The item at an index. -/
def get (t : Table n α) (i : Fin n) : α :=
  t.items.get (i.cast t.size.symm)

/-- The table with the item at one index replaced. -/
def set (t : Table n α) (i : Fin n) (a : α) : Table n α :=
  ⟨t.items.set i.val a, by rw [List.length_set, t.size]⟩

/-- The table that holds the same item at every index. -/
def fill (n : Nat) (a : α) : Table n α :=
  ⟨List.replicate n a, List.length_replicate⟩

/-- The table of the values of a function. -/
def ofFn (f : Fin n → α) : Table n α :=
  ⟨List.ofFn f, List.length_ofFn⟩

end Table

end Sys2Proof
end

