-- ==== Sys2Proof/Syntax.lean ====
section
/-!
DEFINITION. The commands of the TA-6412: one constructor of Instr per row of spec/opcode_table.json, in the table's
order, with the operands the row's rule gives it.
-/

namespace Sys2Proof

/-- A trunk index, 0 to 3 (00_scope.md, Conventions). -/
abbrev Trunk := Fin 4

/-- The strap pins, as they stand at a moment or as sampled (R187). -/
structure Straps where
  /-- UNIT: the unit address, 0 to 15. -/
  unit : BitVec 4
  /-- MTRUNK: the management trunk index m. -/
  mtrunk : Trunk
  /-- RATE: the rate profile code of R85. -/
  rate : BitVec 2
  /-- SUPV. -/
  supv : Bool
deriving DecidableEq, Repr

/-- The 34 words of a wire frame in the order they cross the line (R84, R183). -/
structure WireFrame where
  header : Word18
  slots : Table 32 Word18
  trailer : Word18
deriving DecidableEq, Repr

/-- What a request message carries beside its code and payload: the unit address it names (15 is a broadcast), its
sequence number, and its check as received (R132, R136, R138). -/
structure ReqHeader where
  unit : BitVec 4
  seq : Byte
  check : Half
deriving DecidableEq, Repr

/-- The commands. A request constructor stands for a whole valid message that carries that request's code (length,
check and kind have passed, R136 steps 1 to 3); its payload octets are as they came. -/
inductive Instr where
  /-- POWER_UP (R187): power-up completes; `pins` are the straps, `resetLow` says that RESET_N is low then. -/
  | powerUp (pins : Straps) (resetLow : Bool)
  /-- RESET_N_LOW (R187): RESET_N is taken low and held for `clocks` whole reference clock periods. -/
  | resetNLow (clocks : Nat)
  /-- RESET_N_RELEASE (R25): RESET_N is released with the straps at `pins`. -/
  | resetNRelease (pins : Straps)
  /-- OUTPUT_FRAME_START (R117): the source of starts makes its next start. -/
  | outputFrameStart
  /-- SWITCH_ACTIVATION (R68): the start at which a pending SWITCH is due. -/
  | switchActivation
  /-- RESUME_ACTIVATION (R72): the start at which a pending RESUME is due. -/
  | resumeActivation
  /-- SUPERVISION_EXPIRY (R162): the start at which the supervision count reaches 0. -/
  | supervisionExpiry
  /-- HOLDOVER_EXPIRY (R125): the start at which the holdover count reaches 0. -/
  | holdoverExpiry
  /-- RENOTIFY (R177): the start at which the re-notify count reaches 0. -/
  | renotify
  /-- COPY_STEP (R75): the copy engine makes its next step. -/
  | copyStep
  /-- PATTERN_FOUND (R88): a receiver in SEARCH receives `line` and tests the positions not yet tested. -/
  | patternFound (trunk : Trunk) (line : List Bool)
  /-- VERIFY_BOUNDARY (R89): a receiver in VERIFY receives `line`, up to the 12 bits at the next expected boundary. -/
  | verifyBoundary (trunk : Trunk) (line : List Bool)
  /-- LOCKED_BOUNDARY (R90): a receiver in LOCKED has received the 12 bits `window` at the next expected boundary. -/
  | lockedBoundary (trunk : Trunk) (window : BitVec 12)
  /-- SIGNAL_LOSS (R91): 64 nominal bit periods have passed on the trunk without a transition. -/
  | signalLoss (trunk : Trunk)
  /-- FRAME_DELIVERY (R93): the last bit of `frame` is received, `elapsed` reference clock periods after the latest
  moment the part's timing has seen. -/
  | frameDelivery (trunk : Trunk) (frame : WireFrame) (elapsed : Nat)
  /-- HELD_RESPONSE_PLACED (R145). -/
  | heldResponsePlaced
  /-- NOTICE_OFFER (R173). -/
  | noticeOffer
  /-- UNKNOWN_CODE_REQUEST (R142): a request whose code names no request. -/
  | unknownCodeRequest (head : ReqHeader) (code : Byte) (payload : List Byte)
  /-- IDENTIFY (R152). -/
  | identify (head : ReqHeader) (payload : List Byte)
  /-- READ_STATUS (R153). -/
  | readStatus (head : ReqHeader) (payload : List Byte)
  /-- RESTART (R154). -/
  | restart (head : ReqHeader) (payload : List Byte)
  /-- WRITE_ENTRY (R10). -/
  | writeEntry (head : ReqHeader) (payload : List Byte)
  /-- READ_ENTRY (R19). -/
  | readEntry (head : ReqHeader) (payload : List Byte)
  /-- CLEAR_BANK (R21). -/
  | clearBank (head : ReqHeader) (payload : List Byte)
  /-- SWITCH (R66). -/
  | switch (head : ReqHeader) (payload : List Byte)
  /-- CANCEL (R78). -/
  | cancel (head : ReqHeader) (payload : List Byte)
  /-- COPY (R73). -/
  | copy (head : ReqHeader) (payload : List Byte)
  /-- READ_PROTECTION (R59). -/
  | readProtection (head : ReqHeader) (payload : List Byte)
  /-- PROTECTION_COMMAND (R56). -/
  | protectionCommand (head : ReqHeader) (payload : List Byte)
  /-- SET_TRUNK (R101). -/
  | setTrunk (head : ReqHeader) (payload : List Byte)
  /-- READ_COUNTERS (R100). -/
  | readCounters (head : ReqHeader) (payload : List Byte)
  /-- SET_REFERENCE (R121). -/
  | setReference (head : ReqHeader) (payload : List Byte)
  /-- KEEP (R159). -/
  | keep (head : ReqHeader) (payload : List Byte)
  /-- SET_SUPERVISION (R165). -/
  | setSupervision (head : ReqHeader) (payload : List Byte)
  /-- FALLBACK (R164). -/
  | fallback (head : ReqHeader) (payload : List Byte)
  /-- RESUME (R71). -/
  | resume (head : ReqHeader) (payload : List Byte)
  /-- FREEZE_FALLBACK (R167). -/
  | freezeFallback (head : ReqHeader) (payload : List Byte)
  /-- READ_EVENTS (R179). -/
  | readEvents (head : ReqHeader) (payload : List Byte)
  /-- ACK_EVENTS (R178). -/
  | ackEvents (head : ReqHeader) (payload : List Byte)
  /-- SET_EVENTS (R176). -/
  | setEvents (head : ReqHeader) (payload : List Byte)
  /-- SIGNAL_RETURN (R91): the first line transition after a signal loss. -/
  | signalReturn (trunk : Trunk)
deriving DecidableEq, Repr

end Sys2Proof
end

