-- ==== Sys2Proof/Decode.lean ====
section
/-!
DEFINITION. The request codes of R184, the one encoding the spec gives its commands, and the host's decodeTableWord:
the opcode table gives no row any bits, so no word spells a command.
-/

namespace Sys2Proof

/-- The 22 requests the part knows (R184). -/
inductive ReqKind where
  | identify | readStatus | restart
  | writeEntry | readEntry | clearBank
  | switch | cancel | copy
  | readProtection | protectionCommand
  | setTrunk | readCounters | setReference
  | keep | setSupervision | fallback | resume | freezeFallback
  | readEvents | ackEvents | setEvents
deriving DecidableEq, Repr

/-- The request codes (R184). -/
def ReqKind.code : ReqKind → Byte
  | .identify => 0x01
  | .readStatus => 0x02
  | .restart => 0x03
  | .writeEntry => 0x10
  | .readEntry => 0x11
  | .clearBank => 0x12
  | .switch => 0x18
  | .cancel => 0x19
  | .copy => 0x1A
  | .readProtection => 0x20
  | .protectionCommand => 0x21
  | .setTrunk => 0x28
  | .readCounters => 0x29
  | .setReference => 0x2A
  | .keep => 0x30
  | .setSupervision => 0x31
  | .fallback => 0x32
  | .resume => 0x33
  | .freezeFallback => 0x34
  | .readEvents => 0x38
  | .ackEvents => 0x39
  | .setEvents => 0x3A

/-- Every request, once. -/
def ReqKind.all : List ReqKind :=
  [.identify, .readStatus, .restart, .writeEntry, .readEntry, .clearBank, .switch, .cancel, .copy,
   .readProtection, .protectionCommand, .setTrunk, .readCounters, .setReference,
   .keep, .setSupervision, .fallback, .resume, .freezeFallback, .readEvents, .ackEvents, .setEvents]

/-- The request a code names, or none (R142, R184). -/
def ReqKind.ofCode (code : Byte) : Option ReqKind :=
  ReqKind.all.find? fun k => k.code == code

/-- The command a word spells by the opcode table's bits. The table gives no row any bits, so no word spells one. -/
def decodeTableWord (_nbits _w : Nat) : Option Instr := none

end Sys2Proof
end

