-- ==== Sys2Proof/Config.lean ====
section
/-!
DEFINITION. What is fixed for one part while it runs: the nominal periods of the rate profiles, in reference clock
periods, and the one constant the spec leaves to the implementation.
-/

namespace Sys2Proof.Config

/-- The rate profiles (R85). -/
inductive Profile where
  | k8 | k16 | k48
deriving DecidableEq, Repr

/-- The nominal frame period in periods of the 39.168 MHz reference clock: 125, 62.5 and about 20.8 microseconds
(R85, R118; chapter 11, Pins and electrical note). DEDUCED: 39 168 000 over the frames per second. -/
def nominalPeriod : Profile → Nat
  | .k8 => 4896
  | .k16 => 2448
  | .k48 => 816

/-- 18 nominal bit periods (R119), in reference clock periods: a frame period holds 612 bit periods (R84). -/
def maxStartDelay (p : Profile) : Nat := 18 * nominalPeriod p / 612

/-- The fixed interval from a delivery of the source trunk to the start that follows it (R119): the spec gives its bound
only, so its value is left open. It has no body. Log entry 6. -/
opaque startDelay (p : Profile) : Fin (maxStartDelay p + 1)

end Sys2Proof.Config
end

