-- ==== Sys2Proof/Machine/State.lean ====
section
/-!
DEFINITION. The state of the TA-6412: every item the chapters give its blocks, as plain data, the values after
power-up, and the reasons a step can stop.
-/

namespace Sys2Proof.Machine

/-! ### Chapter 1: the connection map -/

/-- The three banks (R1). -/
inductive BankId where
  | bank0 | bank1 | f
deriving DecidableEq, Repr

/-- Banks 0 and 1, the two that take the roles current and shadow (R2). -/
inductive MainBank where
  | bank0 | bank1
deriving DecidableEq, Repr

/-- A source term (R8). -/
structure Term where
  trunk : Trunk
  slot : Fin 32
  shift : Fin 8
  invert : Bool
deriving DecidableEq, Repr

/-- The alternate of a ROUTE entry, with its hold-off (1 to 15 frames) and wait-to-restore (0 to 255 frames) (R7). -/
structure Alternate where
  term : Term
  holdOff : Nat
  waitToRestore : Nat
deriving DecidableEq, Repr

/-- The two qualifiers a FIXED entry may hold (R7). -/
inductive FixedQual where
  | idle | data
deriving DecidableEq, Repr

/-- An entry record (R7), by its mode. Equality of records (R9) is equality of these values. -/
inductive Entry where
  | off
  | route (primary : Term) (alternate : Option Alternate)
  | mix (terms : List Term)
  | fixed (sample : Half) (qual : FixedQual)
deriving DecidableEq, Repr

/-- A bank: 128 entry records and the edit count (R1). -/
structure Bank where
  entries : Table 128 Entry
  editCount : Half
deriving DecidableEq, Repr

/-- The connection map (R1): three banks, the current-bank role and the frozen flag of F. -/
structure ConnectionMap where
  bank0 : Bank
  bank1 : Bank
  bankF : Bank
  current : MainBank
  frozen : Bool
deriving DecidableEq, Repr

/-! ### Chapters 2, 5 and 6: slots, frames, the exchange, receivers and stores -/

/-- The four qualifier codes (R84, R182). -/
inductive Qual where
  | idle | data | fault | fourth
deriving DecidableEq, Repr

/-- A slot record: a sample and a qualifier (R93). -/
structure SlotRecord where
  sample : Half
  qual : Qual
deriving DecidableEq, Repr

/-- A frame record: the 32 slot records of a delivered frame (R93, R103). -/
abbrev FrameRecord := Table 32 SlotRecord

/-- The frame bank and the frame's entry set (R26). -/
structure Latched where
  bank : BankId
  entries : Table 128 Entry
deriving DecidableEq, Repr

/-- The exchange: the frame bank with its entry set, absent before the first start after a reset (R26), and the frames
the four output trunks are sending, absent while their lines are held without transitions (R44). -/
structure Exchange where
  latched : Option Latched
  output : Option (Table 4 WireFrame)
deriving DecidableEq, Repr

/-- The alignment state of a receiver with the fields that are present in it (R86): the candidate boundary and verify
count in VERIFY; the boundary, miss count and remembered count in LOCKED. -/
inductive Alignment where
  | disabled
  | search
  | verify (candidate : Nat) (count : Nat)
  | locked (candidate : Nat) (miss : Nat) (remembered : Option (BitVec 4))
deriving DecidableEq, Repr

/-- The five counters of a trunk, each 0 to 65535 (R99). -/
structure TrunkCounters where
  checkErrors : Nat
  lockLosses : Nat
  sequenceGaps : Nat
  dropSlips : Nat
  repeatSlips : Nat
deriving DecidableEq, Repr

/-- A trunk receiver (R86). A bit position is the number of bits received on the line before that bit; `received` is
the position of the next bit, `testFrom` the first position SEARCH has still to test (R88 to R91), and `held` the most
recent bits of the line, at most 1236, oldest first (R89). -/
structure Receiver where
  align : Alignment
  lastFet : Bool
  farInFallback : Bool
  signalPresent : Bool
  counters : TrunkCounters
  received : Nat
  testFrom : Nat
  held : List Bool
deriving DecidableEq, Repr

/-- The phases of an input store (R103). -/
inductive StorePhase where
  | idle | priming | running
deriving DecidableEq, Repr

/-- An input store (R103): phase, queue (oldest first) and current frame. The fill is the length of the queue. -/
structure Store where
  phase : StorePhase
  queue : List FrameRecord
  current : Option FrameRecord
deriving DecidableEq, Repr

/-! ### Chapter 3: the protection unit -/

inductive ProtState where
  | primary | failing | alternate | restoring
deriving DecidableEq, Repr

inductive ProtCommand where
  | none | lockPrimary | forceAlternate
deriving DecidableEq, Repr

/-- A protection record (R45). -/
structure ProtRecord where
  state : ProtState
  count : Nat
  command : ProtCommand
deriving DecidableEq, Repr

/-! ### Chapter 4: the bank controller -/

/-- The deferred operation in the pending-operation record (R63). -/
inductive PendingOp where
  | switch (seq : Byte) (frame : Half) (expected : Option Half)
  | resume (seq : Byte) (frame : Half)
  | copy (seq : Byte) (source dest : BankId) (progress : Nat)
deriving DecidableEq, Repr

/-! ### Chapter 7: the frame timing unit -/

/-- The timer state with the tracked trunk and the holdover count where they are present (R116). -/
inductive TimerState where
  | freeRun
  | tracking (trunk : Trunk)
  | holdover (trunk : Trunk) (count : Nat)
deriving DecidableEq, Repr

/-- The source of output frame starts (R116). -/
inductive Source where
  | timer
  | trunk (t : Trunk)
deriving DecidableEq, Repr

/-- A hand-over in progress (R116, R127): the trunk handed over to, and whether its first delivery came too soon, which
stops the old source. -/
structure HandOver where
  trunk : Trunk
  tooSoon : Bool
deriving DecidableEq, Repr

/-- The frame timing unit (R116). Moments are counted in whole reference clock periods: `now` is the latest moment
the unit has seen, `lastStart` the moment of the most recent start, and `owed` the moment of the start that a delivery
of the source trunk has brought and that is still to be made (R119). -/
structure Timing where
  state : TimerState
  refList : List Trunk
  delivered : Table 4 Nat
  source : Source
  handOver : Option HandOver
  counter : Half
  now : Nat
  lastStart : Nat
  owed : Option Nat
deriving DecidableEq, Repr

/-! ### Chapter 8: the management channel -/

/-- The statuses of R151. -/
inductive Status where
  | ok | accepted | stale
  | badCode | badLength | badField | badEntry | reservedSlot
  | liveBank | frozen | bankBusy | opBusy | editMismatch | tooLate | state | notPermitted
  | full
deriving DecidableEq, Repr

/-- The kinds of message the part sends (R132). -/
inductive MsgKind where
  | response | notice
deriving DecidableEq, Repr

/-- A message the part sends (R132), before its check is computed. -/
structure Message where
  kind : MsgKind
  unit : BitVec 4
  seq : Byte
  code : Byte
  status : Status
  payload : List Byte
deriving DecidableEq, Repr

/-- A valid request addressed to the part, with the check it was received with (R136, R138). -/
structure Request where
  unit : BitVec 4
  seq : Byte
  code : Byte
  payload : List Byte
  check : Half
deriving DecidableEq, Repr

/-- The receive assembler (R133): in COLLECT it holds the words collected, in order of arrival. -/
inductive Assembler where
  | gap
  | collect (words : List Half)
  | discard
deriving DecidableEq, Repr

/-- The five receive counters, each 0 to 65535 (R137). -/
structure RxCounters where
  badCheck : Nat
  badLength : Nat
  aborts : Nat
  overlong : Nat
  badKind : Nat
deriving DecidableEq, Repr

/-- The response a processor in WAITING_TX holds, with the key of its request (R138, R145). -/
structure HeldResponse where
  seq : Byte
  check : Half
  response : Message
deriving DecidableEq, Repr

/-- An entry of the response cache (R144); the result is `none` for the mark broadcast. -/
structure CacheEntry where
  seq : Byte
  check : Half
  result : Option Message
deriving DecidableEq, Repr

/-- A message in the transmit queue or in transmission; a notice carries the number of its event (R146, R173). -/
inductive TxItem where
  | response (m : Message)
  | notice (event : Fin 16) (m : Message)
deriving DecidableEq, Repr

/-- The transmitter (R147). In SENDING it holds the message in transmission, the index of its next word, and, for a
notice, whether the event's record still has it as its own (R174); a detached notice has `attached` false. -/
inductive Transmitter where
  | idle
  | sending (item : TxItem) (next : Nat) (attached : Bool)
  | gap
deriving DecidableEq, Repr

/-- The management channel (R132 to R148). The processor is IDLE when `held` is `none` and WAITING_TX otherwise. -/
structure Channel where
  assembler : Assembler
  rx : RxCounters
  requests : List Request
  held : Option HeldResponse
  cache : List CacheEntry
  txQueue : List TxItem
  transmitter : Transmitter
  streak : Nat
deriving DecidableEq, Repr

/-! ### Chapter 9: the supervision unit -/

inductive KeepPhase where
  | a | b
deriving DecidableEq, Repr

inductive LapseCause where
  | expiry | fallback | reset
deriving DecidableEq, Repr

/-- The supervision state with the count, which is not 0 in WATCHING only, and the lapse cause, present in LAPSED only
(R157). -/
inductive SupState where
  | off
  | watching (count : Nat)
  | lapsed (cause : LapseCause)
deriving DecidableEq, Repr

/-- The supervision record (R157). -/
structure Supervision where
  state : SupState
  enabled : Bool
  period : Half
  lastPhase : Option KeepPhase
deriving DecidableEq, Repr

/-! ### Chapter 10: the event unit -/

inductive NoticeState where
  | none | owed | queued | sent
deriving DecidableEq, Repr

/-- An event record (R171). -/
structure EventRecord where
  flag : Bool
  count : Nat
  detail : Half
  notice : NoticeState
deriving DecidableEq, Repr

/-- The event unit (R171): sixteen records, the mask, the re-notify interval and count, and the notice sequence
counter. ALERT_N follows from these and RESET_N (`State.alertLow`). -/
structure EventUnit where
  records : Table 16 EventRecord
  mask : BitVec 16
  interval : Byte
  renotify : Nat
  noticeSeq : Byte
deriving DecidableEq, Repr

/-! ### The whole part -/

/-- Everything the spec gives the part, and the queue of commands that wait for it (`pending`, the model's own). -/
structure State where
  /-- The commands that wait, first in, first out. -/
  pending : List Instr
  /-- RESET_N is low and the part is held in reset (R187). -/
  resetHeld : Bool
  /-- The straps as last sampled (R187). -/
  straps : Straps
  receivers : Table 4 Receiver
  stores : Table 4 Store
  timing : Timing
  map : ConnectionMap
  exchange : Exchange
  protection : Table 128 ProtRecord
  /-- The pending-operation record (R63). -/
  operation : Option PendingOp
  channel : Channel
  supervision : Supervision
  events : EventUnit
deriving DecidableEq, Repr

/-- The reasons a step may stop the part with a fault. The spec gives none: every command has its effect or none at
all, so no constructor stands here and nothing raises a fault (safe: there is nothing to raise). -/
inductive Fault where
deriving DecidableEq, Repr

/-- The reasons a command may be refused. -/
inductive Refusal where
  /-- Raised by an arm of exec for a command that has no meaning yet; no arm raises it now. Safe. -/
  | notModelled (mnemonic : String)
deriving DecidableEq, Repr

/-! ### Values after power-up -/

/-- A bank of OFF entries with edit count 0 (R24). -/
def Bank.cleared : Bank := ⟨Table.fill 128 .off, 0⟩

/-- The map at power-up (R24). -/
def ConnectionMap.powerUp : ConnectionMap := ⟨.cleared, .cleared, .cleared, .bank0, false⟩

def TrunkCounters.zero : TrunkCounters := ⟨0, 0, 0, 0, 0⟩

/-- A receiver at power-up or the release of RESET_N (R102). -/
def Receiver.initial : Receiver := ⟨.search, false, false, true, .zero, 0, 0, []⟩

/-- A store in IDLE, as at power-up (R104, R114). -/
def Store.idle : Store := ⟨.idle, [], none⟩

/-- A protection record at rest (R45, R62). -/
def ProtRecord.rest : ProtRecord := ⟨.primary, 0, .none⟩

/-- The timing unit on coming out of reset at the moment `now` (R130). -/
def Timing.initial (now : Nat) : Timing :=
  ⟨.freeRun, [], Table.fill 4 0, .timer, none, 65535, now, now, none⟩

/-- The management channel after a reset (R155). -/
def Channel.initial : Channel := ⟨.gap, ⟨0, 0, 0, 0, 0⟩, [], none, [], [], .idle, 0⟩

/-- Supervision at power-up, by the SUPV strap (R168). -/
def Supervision.powerUp (supv : Bool) : Supervision :=
  ⟨if supv then .watching 8192 else .off, supv, 8192, none⟩

/-- A clear event record (R171). -/
def EventRecord.clear : EventRecord := ⟨false, 0, 0, .none⟩

/-- The event unit after a reset (R181). -/
def EventUnit.initial : EventUnit := ⟨Table.fill 16 .clear, 0xFFFF, 16, 4096, 0⟩

/-- The part as a power-up with the given straps leaves it, at the moment `now`: every block at its power-up values. -/
def State.powerUp (pins : Straps) (now : Nat) : State where
  pending := []
  resetHeld := false
  straps := pins
  receivers := Table.fill 4 .initial
  stores := Table.fill 4 .idle
  timing := .initial now
  map := .powerUp
  exchange := ⟨none, none⟩
  protection := Table.fill 128 .rest
  operation := none
  channel := .initial
  supervision := .powerUp pins.supv
  events := .initial

/-- The straps with every pin open: the internal pull-downs hold them at 0 (chapter 11, Pins and electrical note).
DESIGN CHOICE, log entry 2: the spec gives the reset machine no particular strapping. -/
def Straps.open : Straps := ⟨0, 0, 0, false⟩

/-- The machine right after power-up, with open straps and RESET_N high, and no command waiting. -/
def State.reset : State := State.powerUp Straps.open 0

end Sys2Proof.Machine
end

