-- ==== Sys2Proof/Machine/Operands.lean ====
section
/-!
DEFINITION. The formats of chapter 11: octets and bits, the two checks, wire frames, entry records, the codes of the
enumerations, messages, and the fields of payloads.
-/

namespace Sys2Proof.Machine

/-! ### Octets, halves and bits -/

/-- The octet at a place of a payload; the length checks come first, so the default is never kept. -/
def byteAt (p : List Byte) (i : Nat) : Byte := p.getD i 0

/-- The 16-bit field at a place of a payload, high octet first (R182). -/
def halfAt (p : List Byte) (i : Nat) : Half := byteAt p i ++ byteAt p (i + 1)

/-- A 16-bit field as octets, high octet first (R182). -/
def octets (x : Half) : List Byte := [x.extractLsb' 8 8, x.extractLsb' 0 8]

/-- A count of at most 65535 as octets. -/
def natOctets (n : Nat) : List Byte := octets (BitVec.ofNat 16 n)

/-- A mark: 1 for present or set, 0 for absent or clear (R182). -/
def mark (b : Bool) : Byte := if b then 1 else 0

/-- The bits of a word in the order they cross the line, most significant first (R183). -/
def bitsOf {n : Nat} (w : BitVec n) : List Bool := (List.range n).map fun i => w.getMsbD i

/-- The profile a RATE strap code chooses (R85); code 3 is the 8k profile. -/
def profileOf (code : BitVec 2) : Config.Profile :=
  if code = 1 then .k16 else if code = 2 then .k48 else .k8

/-! ### Checks (R42, R132, R183) -/

/-- One step of the check register: shift left, and combine with 0x1021 if the bit shifted out differs from the
incoming bit (R183). -/
def crcStep (reg : Half) (b : Bool) : Half :=
  if reg.msb != b then (reg <<< 1) ^^^ 0x1021#16 else reg <<< 1

/-- The check of a run of bits: the register started at 0xFFFF, no inversion (R183). -/
def crc (bits : List Bool) : Half := bits.foldl crcStep 0xFFFF#16

/-- The message check, over whole octets, bit 7 first (R132, R183). -/
def crcOctets (bs : List Byte) : Half := crc (bs.flatMap bitsOf)

/-! ### Codes (R182, R151) -/

def BankId.code : BankId → Byte
  | .bank0 => 0
  | .bank1 => 1
  | .f => 2

/-- The bank a bank octet names (R182). -/
def BankId.ofCode (b : Byte) : Option BankId :=
  if b = 0 then some .bank0 else if b = 1 then some .bank1 else if b = 2 then some .f else none

def MainBank.toBank : MainBank → BankId
  | .bank0 => .bank0
  | .bank1 => .bank1

/-- The other of banks 0 and 1 (R2). -/
def MainBank.other : MainBank → MainBank
  | .bank0 => .bank1
  | .bank1 => .bank0

def Qual.code : Qual → BitVec 2
  | .idle => 0
  | .data => 1
  | .fault => 2
  | .fourth => 3

def Qual.ofCode (c : BitVec 2) : Qual :=
  if c = 0 then .idle else if c = 1 then .data else if c = 2 then .fault else .fourth

/-- The qualifier as it is read where the slot is used: the fourth code reads as FAULT (R30, R84). -/
def Qual.read : Qual → Qual
  | .idle => .idle
  | .data => .data
  | .fault => .fault
  | .fourth => .fault

def FixedQual.toQual : FixedQual → Qual
  | .idle => .idle
  | .data => .data

/-- Receiver states (R182). -/
def Alignment.code : Alignment → BitVec 2
  | .disabled => 0
  | .search => 1
  | .verify _ _ => 2
  | .locked _ _ _ => 3

def StorePhase.code : StorePhase → BitVec 2
  | .idle => 0
  | .priming => 1
  | .running => 2

def TimerState.code : TimerState → BitVec 2
  | .freeRun => 0
  | .tracking _ => 1
  | .holdover _ _ => 2

/-- The tracked trunk, present in TRACKING and HOLDOVER (R116). -/
def TimerState.trunk? : TimerState → Option Trunk
  | .freeRun => none
  | .tracking t => some t
  | .holdover t _ => some t

/-- The octet of a tracked trunk, 0xFF when absent (R182). -/
def trunkOctet : Option Trunk → Byte
  | some t => BitVec.ofNat 8 t.val
  | none => 0xFF

def SupState.code : SupState → Byte
  | .off => 0
  | .watching _ => 1
  | .lapsed _ => 2

/-- The supervision count: 0 in OFF and LAPSED (R157). -/
def SupState.count : SupState → Nat
  | .off => 0
  | .watching c => c
  | .lapsed _ => 0

def LapseCause.code : LapseCause → Byte
  | .expiry => 1
  | .fallback => 2
  | .reset => 3

/-- The lapse cause as a response reports it: none outside LAPSED (R157, R182). -/
def SupState.causeCode : SupState → Byte
  | .off => 0
  | .watching _ => 0
  | .lapsed c => c.code

/-- The pending kind as reported (R64, R182). -/
def pendingKind : Option PendingOp → Byte
  | none => 0
  | some (.switch _ _ _) => 1
  | some (.resume _ _) => 2
  | some (.copy _ _ _ _) => 3

/-- The activation frame as reported (R64). -/
def pendingFrame : Option PendingOp → Half
  | some (.switch _ n _) => n
  | some (.resume _ n) => n
  | _ => 0

/-- The copy progress as reported (R64). -/
def pendingProgress : Option PendingOp → Nat
  | some (.copy _ _ _ n) => n
  | _ => 0

def ProtState.code : ProtState → Byte
  | .primary => 0
  | .failing => 1
  | .alternate => 2
  | .restoring => 3

def ProtCommand.code : ProtCommand → Byte
  | .none => 0
  | .lockPrimary => 1
  | .forceAlternate => 2

def ProtCommand.ofCode (b : Byte) : Option ProtCommand :=
  if b = 0 then some .none else if b = 1 then some .lockPrimary else if b = 2 then some .forceAlternate else none

def KeepPhase.ofCode (b : Byte) : Option KeepPhase :=
  if b = 1 then some .a else if b = 2 then some .b else none

def NoticeState.code : NoticeState → BitVec 2
  | .none => 0
  | .owed => 1
  | .queued => 2
  | .sent => 3

/-- The status codes (R151). -/
def Status.code : Status → Byte
  | .ok => 0
  | .accepted => 1
  | .stale => 2
  | .badCode => 16
  | .badLength => 17
  | .badField => 18
  | .badEntry => 19
  | .reservedSlot => 20
  | .liveBank => 32
  | .frozen => 33
  | .bankBusy => 34
  | .opBusy => 35
  | .editMismatch => 36
  | .tooLate => 37
  | .state => 38
  | .notPermitted => 39
  | .full => 48

def MsgKind.code : MsgKind → BitVec 2
  | .response => 1
  | .notice => 2

/-! ### The wire frame (R84, R183) -/

/-- The alignment pattern (R183). -/
def alignmentPattern : BitVec 12 := 0xD2B#12

/-- A header word: pattern, frame count, FET, FB (R183). -/
def headerWord (count : BitVec 4) (fet fb : Bool) : Word18 :=
  alignmentPattern ++ count ++ BitVec.ofBool fet ++ BitVec.ofBool fb

def headerPattern (w : Word18) : BitVec 12 := w.extractLsb' 6 12
def headerCount (w : Word18) : BitVec 4 := w.extractLsb' 2 4
def headerFet (w : Word18) : Bool := w.getLsbD 1
def headerFb (w : Word18) : Bool := w.getLsbD 0

/-- A slot word: the sample, then the qualifier code (R183). -/
def slotWord (r : SlotRecord) : Word18 := r.sample ++ r.qual.code

/-- The slot record of a received slot word (R183). -/
def slotOfWord (w : Word18) : SlotRecord := ⟨w.extractLsb' 2 16, Qual.ofCode (w.extractLsb' 0 2)⟩

/-- A trailer word: the check and two spare bits sent as 0 (R42, R183). -/
def trailerWord (check : Half) : Word18 := check ++ (0#2)

def trailerCheck (w : Word18) : Half := w.extractLsb' 2 16

/-- The 594 bits the frame check covers: the header word and the 32 slot words, in line order (R42). -/
def coveredBits (header : Word18) (slots : Table 32 Word18) : List Bool :=
  bitsOf header ++ slots.items.flatMap bitsOf

/-- The frame check (R42, R84). -/
def frameCheck (header : Word18) (slots : Table 32 Word18) : Half := crc (coveredBits header slots)

/-- All 612 bits of a frame, in line order (R84). -/
def frameBits (f : WireFrame) : List Bool := coveredBits f.header f.slots ++ bitsOf f.trailer

/-- The check of a received frame passes; the spare bits do not enter the comparison (R84). -/
def checkPasses (f : WireFrame) : Bool := frameCheck f.header f.slots == trailerCheck f.trailer

/-- The frame record of a received frame; an untrusted frame has every qualifier forced to FAULT, its samples kept
(R93 to R95). -/
def frameRecord (f : WireFrame) (trusted : Bool) : FrameRecord :=
  Table.ofFn fun i =>
    let r := slotOfWord (f.slots.get i)
    if trusted then r else ⟨r.sample, .fault⟩

/-- A frame as the part sends it, with its check (R39 to R43). -/
def sentFrame (count : BitVec 4) (fet fb : Bool) (slots : Table 32 SlotRecord) : WireFrame :=
  let header := headerWord count fet fb
  let words := Table.ofFn fun i => slotWord (slots.get i)
  ⟨header, words, trailerWord (frameCheck header words)⟩

/-! ### Messages (R132, R184) -/

/-- Octets 0 to 4 + L of a message the part sends (R132, R184). -/
def Message.body (m : Message) : List Byte :=
  (m.kind.code ++ (0#2) ++ m.unit : Byte) :: m.seq :: m.code :: m.status.code
    :: BitVec.ofNat 8 m.payload.length :: m.payload

/-- A message as it is sent: body, then the check, high octet first (R132). -/
def Message.octets (m : Message) : List Byte := m.body ++ Machine.octets (crcOctets m.body)

/-- Octets taken two to a word, the earlier in the high-order half; an odd last octet is followed by a pad octet of 0
(R132). -/
def packWords : List Byte → List Half
  | [] => []
  | [a] => [a ++ (0 : Byte)]
  | a :: b :: rest => (a ++ b) :: packWords rest

/-- The words of a message (R132). -/
def Message.words (m : Message) : List Half := packWords m.octets

def TxItem.message : TxItem → Message
  | .response m => m
  | .notice _ m => m

def TxItem.isNotice : TxItem → Bool
  | .response _ => false
  | .notice _ _ => true

/-- The octets of collected words, the high-order half of each first (R131). -/
def wordOctets (words : List Half) : List Byte := words.flatMap octets

/-! ### Entry records (R7 to R12, R185) -/

/-- The input slot a term names (R8). -/
def Term.input (t : Term) : Trunk × Fin 32 := (t.trunk, t.slot)

/-- A term from its two octets, none if its trunk or shift is out of range; other bits are ignored (R185). -/
def termOf (a b : Byte) : Option Term :=
  if h : (a.extractLsb' 5 3).toNat < 4 ∧ (b.extractLsb' 0 4).toNat < 8 then
    some ⟨⟨_, h.1⟩, (a.extractLsb' 0 5).toFin, ⟨_, h.2⟩, b.getLsbD 7⟩
  else none

/-- A term as octets, its ignored bits 0 (R185). -/
def Term.octets (t : Term) : List Byte :=
  [BitVec.ofNat 3 t.trunk.val ++ BitVec.ofNat 5 t.slot.val,
   BitVec.ofBool t.invert ++ (0#3) ++ BitVec.ofNat 4 t.shift.val]

/-! The parts of an encoded entry `e` (R185). -/

def entryMode (e : List Byte) : Nat := ((byteAt e 0).extractLsb' 4 4).toNat
def entryQual (e : List Byte) : BitVec 2 := (byteAt e 0).extractLsb' 0 2
def entryTermCount (e : List Byte) : Nat := (byteAt e 1).toNat
def entryAltMark (e : List Byte) : Byte := byteAt e 2

/-- The octets of the fixed value: 2 if the mode field holds the FIXED code (R11). -/
def fixedLength (e : List Byte) : Nat := if entryMode e = 3 then 2 else 0

/-- The length the encoded entry declares; a mark other than 1 counts the alternate as absent (R11, R185). -/
def entryLength (e : List Byte) : Nat :=
  3 + fixedLength e + 2 * entryTermCount e + (if entryAltMark e = 1 then 4 else 0)

/-- The declared terms in list order, none for one out of range. -/
def entryTerms (e : List Byte) : List (Option Term) :=
  (List.range (entryTermCount e)).map fun k =>
    termOf (byteAt e (3 + fixedLength e + 2 * k)) (byteAt e (4 + fixedLength e + 2 * k))

/-- Where the alternate stands. -/
def altPlace (e : List Byte) : Nat := 3 + fixedLength e + 2 * entryTermCount e

/-- The alternate, none if its term or hold-off is out of range (R11). -/
def entryAlternate (e : List Byte) : Option Alternate :=
  let hold := (byteAt e (altPlace e + 2)).toNat
  if 1 ≤ hold ∧ hold ≤ 15 then
    (termOf (byteAt e (altPlace e)) (byteAt e (altPlace e + 1))).map fun t =>
      ⟨t, hold, (byteAt e (altPlace e + 3)).toNat⟩
  else none

/-- Every field of an encoded entry lies in its range (R11, R185). -/
def entryFieldsOk (e : List Byte) : Bool :=
  decide (entryMode e ≤ 3) && decide (entryTermCount e ≤ 4) && decide ((entryAltMark e).toNat ≤ 1)
  && (entryTerms e).all Option.isSome
  && (decide (entryAltMark e ≠ 1) || (entryAlternate e).isSome)
  && (decide (entryMode e ≠ 3) || decide ((entryQual e).toNat ≤ 1))

/-- The entry an encoding whose fields are in range stands for; a shape that R12 refuses gives OFF. -/
def entryOf (e : List Byte) : Entry :=
  match entryMode e, (entryTerms e).filterMap id with
  | 1, [t] => .route t (if entryAltMark e = 1 then entryAlternate e else none)
  | 2, ts => .mix ts
  | 3, _ => .fixed (halfAt e 3) (if entryQual e = 0 then .idle else .data)
  | _, _ => .off

/-- No two terms of a list name the same input slot (R12). -/
def distinctInputs : List Term → Bool
  | [] => true
  | t :: ts => (!ts.any fun u => u.input == t.input) && distinctInputs ts

/-- The structural rules of R12, for an encoding whose fields are in range. -/
def entryShapeOk (e : List Byte) : Bool :=
  let n := entryTermCount e
  let plain := decide (entryAltMark e = 0)
  match entryMode e with
  | 0 => decide (n = 0) && plain
  | 1 => decide (n = 1) &&
      (match entryOf e with
        | .route t (some a) => decide (a.term.input ≠ t.input)
        | _ => true)
  | 2 => decide (2 ≤ n) && decide (n ≤ 4) && plain && distinctInputs ((entryTerms e).filterMap id)
  | 3 => decide (n = 0) && plain
  | _ => false

/-- The terms an entry names, its alternate among them (R13). -/
def Entry.allTerms : Entry → List Term
  | .off => []
  | .route t none => [t]
  | .route t (some a) => [t, a.term]
  | .mix ts => ts
  | .fixed _ _ => []

/-- An entry encoded as READ_ENTRY returns it (R185). -/
def Entry.octets : Entry → List Byte
  | .off => [0x00, 0, 0]
  | .route t none => [0x10, 1, 0] ++ t.octets
  | .route t (some a) =>
      [0x10, 1, 1] ++ t.octets ++ a.term.octets ++ [BitVec.ofNat 8 a.holdOff, BitVec.ofNat 8 a.waitToRestore]
  | .mix ts => [0x20, BitVec.ofNat 8 ts.length, 0] ++ ts.flatMap Term.octets
  | .fixed x .idle => [0x30, 0, 0] ++ Machine.octets x
  | .fixed x .data => [0x31, 0, 0] ++ Machine.octets x

/-! ### Input slots and output slots -/

/-- The index of output slot OUTt.s, 32·t + s (00_scope.md, Conventions). -/
def slotIndex (t : Trunk) (s : Fin 32) : Fin 128 := ⟨32 * t.val + s.val, by omega⟩

/-- The index of the reserved entry, 32·m + 31 (R13, R23). -/
def reservedIndex (m : Trunk) : Fin 128 := slotIndex m 31

/-- Two numbers in one octet of payload or one detail field. -/
def indexOctet (i : Fin 128) : Byte := BitVec.ofNat 8 i.val

/-! ### Details of events (R186) -/

def trunkDetail (t : Trunk) : Half := BitVec.ofNat 16 t.val
/-- SLIP: bit 8 kind, 0 DROP or 1 REPEAT; bits 1–0 trunk. -/
def slipDetail (isRepeat : Bool) (t : Trunk) : Half := BitVec.ofNat 16 ((if isRepeat then 256 else 0) + t.val)
/-- REFERENCE_CHANGE: bits 9–8 timer state; bits 1–0 trunk, 0 for FREE_RUN. -/
def referenceDetail (st : TimerState) : Half :=
  BitVec.ofNat 16 (256 * st.code.toNat + (match st.trunk? with | some t => t.val | none => 0))
def indexDetail (i : Fin 128) : Half := BitVec.ofNat 16 i.val
/-- PROTECTION_REVERT: bit 8 cause, 0 RESTORED or 1 ALTERNATE_FAILED; bits 6–0 index. -/
def revertDetail (alternateFailed : Bool) (i : Fin 128) : Half :=
  BitVec.ofNat 16 ((if alternateFailed then 256 else 0) + i.val)
/-- SWITCH_DONE: bits 13–12 current bank; bits 9–8 live bank; bits 7–0 sequence. -/
def switchDoneDetail (current live : BankId) (seq : Byte) : Half :=
  BitVec.ofNat 16 (4096 * current.code.toNat + 256 * live.code.toNat + seq.toNat)
/-- The causes of OP_CANCELLED: 0 REQUEST, 1 EXPIRY, 2 FALLBACK. -/
inductive CancelCause where
  | request | expiry | fallback
deriving DecidableEq, Repr
def CancelCause.code : CancelCause → Nat
  | .request => 0
  | .expiry => 1
  | .fallback => 2
/-- OP_CANCELLED: bits 13–12 kind, 1 SWITCH or 2 RESUME; bits 9–8 cause; bits 7–0 sequence. -/
def cancelDetail (isResume : Bool) (cause : CancelCause) (seq : Byte) : Half :=
  BitVec.ofNat 16 ((if isResume then 8192 else 4096) + 256 * cause.code + seq.toNat)
/-- COPY_DONE: bit 8 outcome, 0 COMPLETED or 1 ABANDONED; bits 7–0 sequence. -/
def copyDetail (abandoned : Bool) (seq : Byte) : Half := BitVec.ofNat 16 ((if abandoned then 256 else 0) + seq.toNat)
/-- LAPSE: bits 1–0 lapse cause. -/
def lapseDetail (c : LapseCause) : Half := BitVec.ofNat 16 c.code.toNat
/-- The causes of MGMT_ERROR (R186). -/
inductive MgmtCause where
  | length | check | kind | abort | overlong
deriving DecidableEq, Repr
def MgmtCause.code : MgmtCause → Half
  | .length => 0
  | .check => 1
  | .kind => 2
  | .abort => 3
  | .overlong => 4
/-- TX_OVERFLOW: bit 8 what, 0 FULL or 1 CACHED; bits 7–0 sequence. -/
def overflowDetail (cached : Bool) (seq : Byte) : Half := BitVec.ofNat 16 ((if cached then 256 else 0) + seq.toNat)

end Sys2Proof.Machine
end

