-- ==== Sys2Proof/Machine/Ops.lean ====
section
/-!
DEFINITION. The named operations over the state that every block uses: one update per block's record, the banks and
their roles, saturating counts.
-/

namespace Sys2Proof.Machine

/-- A counter that saturates at its maximum (00_scope.md, Numbers and counters). -/
def satInc (max n : Nat) : Nat := if n < max then n + 1 else n

namespace State

/-! ### One update per record -/

def withReceivers (s : State) (v : Table 4 Receiver) : State := { s with receivers := v }
def withStores (s : State) (v : Table 4 Store) : State := { s with stores := v }
def withTiming (s : State) (v : Timing) : State := { s with timing := v }
def withMap (s : State) (v : ConnectionMap) : State := { s with map := v }
def withExchange (s : State) (v : Exchange) : State := { s with exchange := v }
def withProtection (s : State) (v : Table 128 ProtRecord) : State := { s with protection := v }
def withOperation (s : State) (v : Option PendingOp) : State := { s with operation := v }
def withChannel (s : State) (v : Channel) : State := { s with channel := v }
def withSupervision (s : State) (v : Supervision) : State := { s with supervision := v }
def withEvents (s : State) (v : EventUnit) : State := { s with events := v }

/-- The queue of waiting commands, the model's own, replaced. -/
def withPending (s : State) (v : List Instr) : State := { s with pending := v }

/-! ### Straps, trunks -/

/-- The management trunk index m, from the straps as last sampled (R155). -/
def mgmtTrunk (s : State) : Trunk := s.straps.mtrunk

/-- The rate profile as last sampled (R85). -/
def profile (s : State) : Config.Profile := profileOf s.straps.rate

/-- The index of the reserved entry under the straps as last sampled (R23). -/
def reserved (s : State) : Fin 128 := reservedIndex s.mgmtTrunk

def receiver (s : State) (t : Trunk) : Receiver := s.receivers.get t
def setReceiver (s : State) (t : Trunk) (r : Receiver) : State := s.withReceivers (s.receivers.set t r)
def store (s : State) (t : Trunk) : Store := s.stores.get t
def setStore (s : State) (t : Trunk) (v : Store) : State := s.withStores (s.stores.set t v)

/-! ### Banks and roles (R1 to R5) -/

/-- A bank of the map. -/
def bank (s : State) : BankId → Bank
  | .bank0 => s.map.bank0
  | .bank1 => s.map.bank1
  | .f => s.map.bankF

/-- A bank of the map replaced. -/
def setBank (s : State) (b : BankId) (v : Bank) : State :=
  match b with
  | .bank0 => s.withMap { s.map with bank0 := v }
  | .bank1 => s.withMap { s.map with bank1 := v }
  | .f => s.withMap { s.map with bankF := v }

/-- The bank with the role current (R2). -/
def currentBank (s : State) : BankId := s.map.current.toBank

/-- The bank with the role shadow (R2). -/
def shadowBank (s : State) : BankId := s.map.current.other.toBank

/-- Supervision is LAPSED (R157). -/
def isLapsed (s : State) : Bool :=
  match s.supervision.state with
  | .lapsed _ => true
  | _ => false

/-- The live bank: F while supervision is LAPSED, otherwise the current bank (R3). It is not held. -/
def liveBank (s : State) : BankId := if s.isLapsed then .f else s.currentBank

/-- The bank is held by the deferred operation in the pending-operation record (R16). -/
def holdsBank (s : State) (b : BankId) : Bool :=
  match s.operation with
  | none => false
  | some (.switch _ _ _) => b == s.shadowBank
  | some (.resume _ _) => b == s.currentBank
  | some (.copy _ src dst _) => b == src || b == dst

/-- The bank is the destination of a copy in progress (R6, R20). -/
def copyInto (s : State) (b : BankId) : Bool :=
  match s.operation with
  | some (.copy _ _ dst _) => b == dst
  | _ => false

/-- A bank's edit count increased by 1, wrapping (R5). -/
def bumpEdit (s : State) (b : BankId) : State :=
  s.setBank b { s.bank b with editCount := (s.bank b).editCount + 1 }

/-- A bank is F and the frozen flag is set (R15). -/
def frozenBank (s : State) (b : BankId) : Bool := b == .f && s.map.frozen

end State

end Sys2Proof.Machine
end

