-- ==== Sys2Proof/Machine/Flags.lean ====
section
/-!
DEFINITION. The event unit (chapter 10) and the part of the transmit queue it uses: occurrences, notices, the
sixteen flags, withdrawal, re-notify and ALERT_N.
-/

namespace Sys2Proof.Machine

/-- The sixteen events (chapter 10, the table of events). -/
inductive Event where
  | lockLost | lockGained | slip | checkError | farEndTrouble | referenceChange
  | protectionSwitch | protectionRevert | switchDone | opCancelled | copyDone
  | lapse | mixClip | mgmtError | txOverflow | staleKeep
deriving DecidableEq, Repr

/-- The number of an event (chapter 10). -/
def Event.num : Event → Fin 16
  | .lockLost => 0
  | .lockGained => 1
  | .slip => 2
  | .checkError => 3
  | .farEndTrouble => 4
  | .referenceChange => 5
  | .protectionSwitch => 6
  | .protectionRevert => 7
  | .switchDone => 8
  | .opCancelled => 9
  | .copyDone => 10
  | .lapse => 11
  | .mixClip => 12
  | .mgmtError => 13
  | .txOverflow => 14
  | .staleKeep => 15

/-! ### The transmit queue's capacity (R146) -/

/-- The notices waiting in a transmit queue. -/
def noticesIn (q : List TxItem) : Nat := (q.filter TxItem.isNotice).length

/-- A response is taken while the queue holds fewer than 8 messages (R146). -/
def roomForResponse (q : List TxItem) : Bool := decide (q.length < 8)

/-- A notice is taken while the queue holds fewer than 8 messages and fewer than 4 notices (R146). -/
def roomForNotice (q : List TxItem) : Bool := decide (q.length < 8) && decide (noticesIn q < 4)

namespace EventUnit

/-- The 16 event flags, bit n for event n (R186). -/
def flags (u : EventUnit) : BitVec 16 :=
  BitVec.ofFnLE fun e => (u.records.get e).flag

/-- One record changed. -/
def setRecord (u : EventUnit) (e : Fin 16) (r : EventRecord) : EventUnit :=
  { u with records := u.records.set e r }

/-- Every record changed by the same function of its number. -/
def mapRecords (u : EventUnit) (f : Fin 16 → EventRecord → EventRecord) : EventUnit :=
  { u with records := Table.ofFn fun e => f e (u.records.get e) }

/-- At least one record has its flag set and its mask bit set (R180). -/
def unmaskedFlag (u : EventUnit) : Bool :=
  (List.finRange 16).any fun e => (u.records.get e).flag && u.mask.getLsbD e.val

end EventUnit

namespace State

def record (s : State) (e : Fin 16) : EventRecord := s.events.records.get e

/-- ALERT_N is driven low: some unmasked flag is set, and the part is not held in reset (R180, R187). -/
def alertLow (s : State) : Bool := !s.resetHeld && s.events.unmaskedFlag

/-! ### Offering notices (R173) -/

/-- The notice of a record, built at the moment it is taken (R173). -/
def noticeOf (s : State) (e : Fin 16) : Message :=
  ⟨.notice, s.straps.unit, s.events.noticeSeq, BitVec.ofNat 8 e.val, .ok,
   BitVec.ofNat 8 (s.record e).count :: (octets (s.record e).detail ++ octets s.events.flags)⟩

/-- An owed record's notice joins the tail of the transmit queue: the record becomes QUEUED and the notice sequence
counter rises by 1, wrapping (R173). -/
def takeNotice (s : State) (e : Fin 16) : State :=
  let item := TxItem.notice e (s.noticeOf e)
  let unit := s.events.setRecord e { s.record e with notice := .queued }
  (s.withChannel { s.channel with txQueue := s.channel.txQueue ++ [item] }).withEvents
    { unit with noticeSeq := unit.noticeSeq + 1 }

/-- The owed records among `es` are offered in the order given; the first that finds no room ends the offering
(R173). -/
def offerFrom : List (Fin 16) → State → State
  | [], s => s
  | e :: es, s =>
    if (s.record e).notice = .owed then
      if roomForNotice s.channel.txQueue then offerFrom es (s.takeNotice e) else s
    else offerFrom es s

/-- The owed records are offered in ascending order of event number (R173). -/
def offerNotices (s : State) : State := offerFrom (List.finRange 16) s

/-! ### Occurrences (R172) -/

/-- A record after one occurrence with this detail, under its mask bit (R172). -/
def occurred (r : EventRecord) (detail : Half) (masked : Bool) : EventRecord :=
  ⟨true, satInc 255 r.count, detail, if !masked && r.notice = .none then .owed else r.notice⟩

/-- One occurrence of an event: the record changes, and if it becomes OWED the notice is offered at once (R172). -/
def raise (s : State) (ev : Event) (detail : Half) : State :=
  let e := ev.num
  let r := occurred (s.record e) detail (!s.events.mask.getLsbD e.val)
  offerNotices (s.withEvents (s.events.setRecord e r))

/-- Occurrences raised one after another, in the order of the list. -/
def raiseAll (s : State) (l : List (Event × Half)) : State :=
  l.foldl (fun s x => s.raise x.1 x.2) s

/-! ### Withdrawal (R149, R175) -/

/-- The waiting notices of the events in `which` leave the transmit queue, and one in transmission is detached from its
record (R174, R175). -/
def withdraw (s : State) (which : Fin 16 → Bool) : State :=
  let keep : TxItem → Bool := fun it =>
    match it with
    | .response _ => true
    | .notice e _ => !which e
  let tx := match s.channel.transmitter with
    | .sending it next attached => Transmitter.sending it next (attached && keep it)
    | other => other
  s.withChannel { s.channel with txQueue := s.channel.txQueue.filter keep, transmitter := tx }

/-- Every record of `which` becomes clear (R178). -/
def clearRecords (s : State) (which : Fin 16 → Bool) : State :=
  s.withEvents (s.events.mapRecords fun e r => if which e then .clear else r)

/-- ACK_EVENTS (R178): the named records are cleared, their notices withdrawn, and the room this frees handed out
(R175). The processor that executes it holds no response, so the room goes to owed notices (R146). -/
def acknowledge (s : State) (set : BitVec 16) : State :=
  offerNotices ((s.withdraw fun e => set.getLsbD e.val).clearRecords fun e => set.getLsbD e.val)

/-- SET_EVENTS (R176): first the bits that change from set to clear, whose notices are withdrawn and whose room is
handed out, then those that change from clear to set; the interval and the re-notify count with them (R177). -/
def setMask (s : State) (mask : BitVec 16) (interval : Byte) : State :=
  let old := s.events.mask
  let lost : Fin 16 → Bool := fun e => old.getLsbD e.val && !mask.getLsbD e.val
  let gained : Fin 16 → Bool := fun e => !old.getLsbD e.val && mask.getLsbD e.val
  let s1 := s.withdraw lost
  let s2 := s1.withEvents
    { (s1.events.mapRecords fun e r => if lost e then { r with notice := .none } else r) with
      mask := mask, interval := interval, renotify := 256 * interval.toNat }
  let s3 := offerNotices s2
  let s4 := s3.withEvents (s3.events.mapRecords fun e r =>
    if gained e && r.flag && r.notice = .none then { r with notice := .owed } else r)
  offerNotices s4

/-! ### Re-notify (R177) -/

/-- Every SENT record becomes OWED, and the owed records are offered (R177). -/
def renotifySent (s : State) : State :=
  offerNotices (s.withEvents (s.events.mapRecords fun _ r =>
    if r.notice = .sent then { r with notice := .owed } else r))

/-- The re-notify count at an output frame start: held at 0 with interval 0, else decremented, and at 0 reloaded with
every SENT record reported again (R177). -/
def renotifyStart (s : State) : State :=
  if s.events.interval = 0 then s
  else if s.events.renotify ≤ 1 then
    renotifySent (s.withEvents { s.events with renotify := 256 * s.events.interval.toNat })
  else s.withEvents { s.events with renotify := s.events.renotify - 1 }

/-- The last word of a notice has been handed: if the record is QUEUED with that notice as its own, it becomes SENT
(R174). -/
def noticeSent (s : State) (e : Fin 16) : State :=
  if (s.record e).notice = .queued then
    s.withEvents (s.events.setRecord e { s.record e with notice := .sent })
  else s

end State

end Sys2Proof.Machine
end

