-- ==== Sys2Proof/Machine/Protection.lean ====
section
/-!
DEFINITION. The protection unit (chapter 3): which records act, failure and health, automatic evaluation, commands,
and records across a change of frame bank.
-/

namespace Sys2Proof.Machine

/-- The entry is a ROUTE with an alternate (R46). -/
def Entry.hasAlternate : Entry → Bool
  | .route _ (some _) => true
  | _ => false

/-- A move that automatic evaluation makes and reports (R54). -/
inductive ProtMove where
  | switched
  | restored
  | alternateFailed
deriving DecidableEq, Repr

/-- The event and detail of a move at an index (R54, R186). -/
def ProtMove.event (i : Fin 128) : ProtMove → Event × Half
  | .switched => (.protectionSwitch, indexDetail i)
  | .restored => (.protectionRevert, revertDetail false i)
  | .alternateFailed => (.protectionRevert, revertDetail true i)

namespace ProtRecord

/-- The record with a state and a count. -/
def goes (r : ProtRecord) (st : ProtState) (count : Nat) : ProtRecord := { r with state := st, count := count }

/-- The count has reached the hold-off with the primary failing: the slot moves unless the alternate is FAULT (R50,
R51). -/
def holdOffOver (r : ProtRecord) (holdOff : Nat) (altFails : Bool) : ProtRecord × Option ProtMove :=
  if altFails then (r.goes .failing holdOff, none) else (r.goes .alternate 0, some .switched)

/-- Automatic evaluation of a record in PRIMARY (R50). -/
def evalPrimary (r : ProtRecord) (a : Alternate) (fails altFails : Bool) : ProtRecord × Option ProtMove :=
  if !fails then (r.goes .primary 0, none)
  else if 1 < a.holdOff then (r.goes .failing 1, none)
  else r.holdOffOver 1 altFails

/-- Automatic evaluation of a record in FAILING (R51). -/
def evalFailing (r : ProtRecord) (a : Alternate) (fails altFails : Bool) : ProtRecord × Option ProtMove :=
  if !fails then (r.goes .primary 0, none)
  else if r.count + 1 < a.holdOff then (r.goes .failing (r.count + 1), none)
  else r.holdOffOver a.holdOff altFails

/-- Automatic evaluation of a record in ALTERNATE: the five cases of R52, in order. -/
def evalAlternate (r : ProtRecord) (a : Alternate) (fails altFails : Bool) : ProtRecord × Option ProtMove :=
  if !fails && altFails then (r.goes .primary 0, some .alternateFailed)
  else if a.waitToRestore = 0 then (r.goes .alternate 0, none)
  else if !fails then
    if a.waitToRestore = 1 then (r.goes .primary 0, some .restored) else (r.goes .restoring 1, none)
  else (r.goes .alternate 0, none)

/-- Automatic evaluation of a record in RESTORING: the four cases of R53, in order. -/
def evalRestoring (r : ProtRecord) (a : Alternate) (fails altFails : Bool) : ProtRecord × Option ProtMove :=
  if !fails && altFails then (r.goes .primary 0, some .alternateFailed)
  else if fails then (r.goes .alternate 0, none)
  else if r.count + 1 < a.waitToRestore then (r.goes .restoring (r.count + 1), none)
  else (r.goes .primary 0, some .restored)

/-- Automatic evaluation, by the state of the record (R50 to R53). -/
def autoEval (r : ProtRecord) (a : Alternate) (fails altFails : Bool) : ProtRecord × Option ProtMove :=
  match r.state with
  | .primary => r.evalPrimary a fails altFails
  | .failing => r.evalFailing a fails altFails
  | .alternate => r.evalAlternate a fails altFails
  | .restoring => r.evalRestoring a fails altFails

/-- A record that acts, at an output frame start: its command is applied, or it is evaluated (R49, R55). -/
def select (r : ProtRecord) (a : Alternate) (fails altFails : Bool) : ProtRecord × Option ProtMove :=
  match r.command with
  | .none => r.autoEval a fails altFails
  | .lockPrimary => (r.goes .primary 0, none)
  | .forceAlternate => (r.goes .alternate 0, none)

/-- The slot uses its alternate, by the state after selection (R49). -/
def usesAlternate (r : ProtRecord) : Bool := r.state == .alternate || r.state == .restoring

/-- An accepted PROTECTION_COMMAND (R57, R58): NONE keeps the state and sets the count to 0. -/
def commanded (r : ProtRecord) : ProtCommand → ProtRecord
  | .none => ⟨r.state, 0, .none⟩
  | .lockPrimary => ⟨.primary, 0, .lockPrimary⟩
  | .forceAlternate => ⟨.alternate, 0, .forceAlternate⟩

end ProtRecord

namespace State

/-! ### Reading input slots (R30) -/

/-- The record read from an input slot for the frame being built: FAULT with sample 0 for the input management slot
and for a trunk whose store has no current frame, else the current frame's slot record with the fourth code read as
FAULT (R30). -/
def readInput (s : State) (t : Trunk) (slot : Fin 32) : SlotRecord :=
  if t = s.mgmtTrunk ∧ slot = 31 then ⟨0, .fault⟩
  else
    match (s.store t).current with
    | none => ⟨0, .fault⟩
    | some fr => ⟨(fr.get slot).sample, (fr.get slot).qual.read⟩

/-- A source term is failing: the qualifier read for its input slot is FAULT (R47). -/
def termFails (s : State) (t : Term) : Bool := (s.readInput t.trunk t.slot).qual == .fault

/-! ### Work at an output frame start (R49) -/

/-- The record at an index after selection under the entry of the frame's entry set there, and the move it made; a
record that does not act is left (R46, R49). -/
def selectAt (s : State) (entry : Entry) (i : Fin 128) (r : ProtRecord) : ProtRecord × Option ProtMove :=
  match entry with
  | .route p (some a) =>
      if i = s.reserved then (r, none) else r.select a (s.termFails p) (s.termFails a.term)
  | _ => (r, none)

/-- Records at indices whose entries differ return to rest; the others are kept (R60, R61). -/
def restUnequal (s : State) (old new : Table 128 Entry) : State :=
  s.withProtection (Table.ofFn fun i =>
    if old.get i = new.get i then s.protection.get i else .rest)

/-- Selection for every index, under an entry set (R49 step 2). -/
def selectAll (s : State) (entries : Table 128 Entry) : State :=
  s.withProtection (Table.ofFn fun i => (s.selectAt (entries.get i) i (s.protection.get i)).1)

/-- The protection occurrences of a frame, in ascending order of index (R54). -/
def protectionEvents (s : State) (entries : Table 128 Entry) : List (Event × Half) :=
  (List.finRange 128).filterMap fun i =>
    ((s.selectAt (entries.get i) i (s.protection.get i)).2).map (ProtMove.event i)

/-- Selection and its occurrences (R49 steps 2 and 4). -/
def protectFrame (s : State) (entries : Table 128 Entry) : State :=
  (s.selectAll entries).raiseAll (s.protectionEvents entries)

/-- The protection unit's part in an accepted FALLBACK: the frame's entry set is compared with F (R61). Before the
first output frame start after a reset there is no entry set, and every record is at rest. -/
def protectFallback (s : State) : State :=
  match s.exchange.latched with
  | none => s
  | some l => s.restUnequal l.entries s.map.bankF.entries

/-- The protection unit's part in the activation of a RESUME, a change of frame bank from F to the current bank (R72
step 3): records return to rest where the current bank's entry differs from F's, and where it differs from the frame's
entry set (R29, R60). The two comparisons are one wherever a frame has been built from F. Where a FALLBACK and the RESUME
have no start between them, they are its change of frame bank and the RESUME's (R61, log entry 19). -/
def protectResume (s : State) : State :=
  let new := (s.bank s.currentBank).entries
  let s1 := s.restUnequal s.map.bankF.entries new
  match s.exchange.latched with
  | none => s1
  | some l => s1.restUnequal l.entries new

/-- The live bank holds a protected route at the index (R46, R59). -/
def protectedAt (s : State) (i : Fin 128) : Bool :=
  i != s.reserved && ((s.bank s.liveBank).entries.get i).hasAlternate

end State

end Sys2Proof.Machine
end

