-- ==== Sys2Proof/Machine/Banks.lean ====
section
/-!
DEFINITION. The bank controller (chapter 4) and the change of live bank: the activation window, activation of SWITCH
and RESUME, copy steps, the lapse of R161, and how a deferred operation ends.
-/

namespace Sys2Proof.Machine.State

/-! ### The activation window (R65) -/

/-- The activation frame a request resolves to: the number it names if it names one, else the next output frame
(R65). -/
def resolveFrame (s : State) (named : Bool) (n : Half) : Half :=
  if named then n else s.timing.counter + 1

/-- The frame lies ahead: (N − counter) mod 65536 is 1 to 32768 (R65). -/
def frameAhead (s : State) (n : Half) : Bool :=
  let d := (n - s.timing.counter).toNat
  decide (1 ≤ d) && decide (d ≤ 32768)

/-! ### Copying (R22, R75, R76, R79) -/

/-- One copy step: the entry at one index of the source is stored at the same index of the destination; the edit count
does not change (R22). -/
def copyEntry (s : State) (src dst : BankId) (i : Fin 128) : State :=
  s.setBank dst { s.bank dst with entries := (s.bank dst).entries.set i ((s.bank src).entries.get i) }

/-- A copy that completes: the destination takes the source's edit count, the record is cleared, COPY_DONE is raised
(R76). -/
def completeCopy (s : State) (seq : Byte) (src dst : BankId) : State :=
  ((s.setBank dst { s.bank dst with editCount := (s.bank src).editCount }).withOperation none).raise
    .copyDone (copyDetail false seq)

/-- A copy that is abandoned: the destination's edit count rises by 1, the record is cleared, COPY_DONE is raised (R22,
R79). -/
def abandonCopy (s : State) (seq : Byte) (dst : BankId) : State :=
  ((s.bumpEdit dst).withOperation none).raise .copyDone (copyDetail true seq)

/-- The copy engine's next step (R75): at the step for index 127 the copy completes (R76). Without a copy in progress
the engine makes none. -/
def copyEngineStep (s : State) : State :=
  match s.operation with
  | some (.copy seq src dst n) =>
      if h : n < 128 then
        let s1 := s.copyEntry src dst ⟨n, h⟩
        if n = 127 then s1.completeCopy seq src dst
        else s1.withOperation (some (.copy seq src dst (n + 1)))
      else s
  | _ => s

/-! ### The lapse (R161) -/

/-- The cause an OP_CANCELLED carries for a lapse (R70). -/
def lapseCancelCause : LapseCause → CancelCause
  | .expiry => .expiry
  | .fallback => .fallback
  | .reset => .request

/-- What a lapse does to the deferred operation: a pending SWITCH is cancelled (R70), a copy into F abandoned (R22);
a copy into bank 0 or 1 goes on (R77), and no RESUME can be pending (R71). -/
def lapseOperation (s : State) (cause : LapseCause) : State :=
  match s.operation with
  | some (.switch seq _ _) =>
      (s.withOperation none).raise .opCancelled (cancelDetail false (lapseCancelCause cause) seq)
  | some (.copy seq _ .f _) => s.abandonCopy seq .f
  | _ => s

/-- Supervision goes to LAPSED with a cause, its count with it to 0; enabled, period and last phase are left (R161). -/
def enterLapsed (s : State) (cause : LapseCause) : State :=
  s.withSupervision { s.supervision with state := .lapsed cause }

/-- A lapse by expiry: the protection unit acts at the start's change of frame bank (R60, R161). -/
def lapseByExpiry (s : State) : State :=
  ((s.enterLapsed .expiry).lapseOperation .expiry).raise .lapse (lapseDetail .expiry)

/-- A lapse by an accepted FALLBACK: the protection unit acts at the acceptance (R61, R161). -/
def lapseByRequest (s : State) : State :=
  (((s.enterLapsed .fallback).lapseOperation .fallback).protectFallback).raise .lapse (lapseDetail .fallback)

/-! ### Activation (R68, R69, R72) -/

/-- The roles of banks 0 and 1 are exchanged (R2). -/
def exchangeRoles (s : State) : State := s.withMap { s.map with current := s.map.current.other }

/-- Supervision leaves LAPSED: WATCHING with count P if enabled, else OFF; the last phase becomes none (R166). -/
def leaveLapsed (s : State) : State :=
  s.withSupervision
    { s.supervision with
      state := if s.supervision.enabled then .watching s.supervision.period.toNat else .off
      lastPhase := none }

/-- SWITCH_DONE with the roles and the live bank as they stand (R81). -/
def raiseSwitchDone (s : State) (seq : Byte) : State :=
  s.raise .switchDone (switchDoneDetail s.currentBank s.liveBank seq)

/-- A SWITCH activates: the roles are exchanged, the record is cleared, SWITCH_DONE is raised (R68, R69). -/
def activateSwitch (s : State) (seq : Byte) : State :=
  (s.exchangeRoles.withOperation none).raiseSwitchDone seq

/-- A RESUME activates: supervision leaves LAPSED, the protection records are compared, the record is cleared,
SWITCH_DONE is raised (R72). -/
def activateResume (s : State) (seq : Byte) : State :=
  (s.leaveLapsed.protectResume.withOperation none).raiseSwitchDone seq

/-- A pending SWITCH or RESUME whose activation frame is the frame now starting activates (R68, R69, R72). -/
def activateDue (s : State) : State :=
  match s.operation with
  | some (.switch seq n _) => if n = s.timing.counter then s.activateSwitch seq else s
  | some (.resume seq n) => if n = s.timing.counter then s.activateResume seq else s
  | _ => s

/-- A pending SWITCH whose activation frame is the next output frame. -/
def switchDue (s : State) : Bool :=
  match s.operation with
  | some (.switch _ n _) => n == s.timing.counter + 1
  | _ => false

/-- A pending RESUME whose activation frame is the next output frame. -/
def resumeDue (s : State) : Bool :=
  match s.operation with
  | some (.resume _ n) => n == s.timing.counter + 1
  | _ => false

/-! ### Supervision at an output frame start (R162) -/

/-- The supervision count at a start: decremented in WATCHING, and at 0 supervision expires (R162). -/
def superviseStart (s : State) : State :=
  match s.supervision.state with
  | .watching c =>
      if c ≤ 1 then s.lapseByExpiry
      else s.withSupervision { s.supervision with state := .watching (c - 1) }
  | _ => s

/-- The next output frame start is the one at which supervision expires (R162). -/
def expiryDue (s : State) : Bool :=
  match s.supervision.state with
  | .watching c => decide (c ≤ 1)
  | _ => false

end Sys2Proof.Machine.State
end

