-- ==== Sys2Proof/Machine/Timing.lean ====
section
/-!
DEFINITION. The frame timing unit (chapter 7): qualification, selection, change of source, hand-over, the moment and
number of each output frame start, holdover.
-/

namespace Sys2Proof.Machine

namespace Timing

/-- A trunk is qualified while its delivered-frame count is 64 (R120). -/
def qualified (tm : Timing) (t : Trunk) : Bool := tm.delivered.get t == 64

/-- The selection: the highest-priority trunk on the list that is qualified, or nothing (R123). -/
def selection (tm : Timing) : Option Trunk := tm.refList.find? tm.qualified

/-- A first delivery too soon has stopped the source of starts (R127). -/
def stopped (tm : Timing) : Bool :=
  match tm.handOver with
  | some h => h.tooSoon
  | none => false

/-- The internal frame timer becomes the source, and a hand-over is dropped (R126). -/
def timerStandsIn (tm : Timing) : Timing :=
  match tm.source with
  | .timer => { tm with handOver := none }
  | .trunk _ => { tm with source := .timer, handOver := none, owed := none }

/-- TRACKING u begins: a hand-over to u unless u is the source (R127). A source that a delivery too soon has stopped
gives way to the timer first (R126, R127). -/
def track (tm : Timing) (u : Trunk) : Timing :=
  let src := if tm.stopped then .timer else tm.source
  { tm with
    state := .tracking u
    source := src
    owed := if tm.stopped then none else tm.owed
    handOver := if src = .trunk u then none else some ⟨u, false⟩ }

/-- The outcome of an evaluation (R124). -/
def evaluate (tm : Timing) : Timing :=
  if tm.refList = [] then { tm.timerStandsIn with state := .freeRun }
  else
    match tm.selection, tm.state with
    | some u, .tracking t => if u = t then tm else tm.track u
    | some u, _ => tm.track u
    | none, .tracking t => { tm.timerStandsIn with state := .holdover t 8192 }
    | none, _ => tm

/-- The timer state or the tracked trunk changes (R128). -/
def reports (old new : TimerState) : Bool := old.code != new.code || old.trunk? != new.trunk?

/-- The moment at which a start following a delivery made now would be made (R119). -/
def startMoment (tm : Timing) (p : Config.Profile) : Nat := tm.now + (Config.startDelay p).val

/-- The trunk becomes the source of starts, with a start owed for this delivery (R127). -/
def handOverTo (tm : Timing) (u : Trunk) (p : Config.Profile) : Timing :=
  { tm with source := .trunk u, handOver := none, owed := some (tm.startMoment p) }

/-- A start follows this delivery if its trunk is the source and is not stopped (R119, R127). -/
def oweStart (tm : Timing) (t : Trunk) (p : Config.Profile) : Timing :=
  if tm.source = .trunk t ∧ tm.stopped = false then { tm with owed := some (tm.startMoment p) } else tm

/-- A delivery of a trunk as the hand-over and the source of starts take it: the first delivery of the trunk handed over
to completes the hand-over if at least half a nominal period has passed since the last start, else it stops the old
source; the second completes it (R119, R127). -/
def takeDelivery (tm : Timing) (t : Trunk) (p : Config.Profile) : Timing :=
  match tm.handOver with
  | some h =>
      if h.trunk = t then
        if h.tooSoon then tm.handOverTo t p
        else if Config.nominalPeriod p ≤ 2 * (tm.startMoment p - tm.lastStart) then tm.handOverTo t p
        else { tm with handOver := some ⟨t, true⟩, owed := none }
      else tm.oweStart t p
  | none => tm.oweStart t p

/-- The source of starts can make a start: the timer always, a trunk when a delivery has brought one; neither while a
delivery too soon has stopped it (R118, R119, R127). -/
def canStart (tm : Timing) : Bool :=
  !tm.stopped &&
    (match tm.source with
      | .timer => true
      | .trunk _ => tm.owed.isSome)

/-- The moment of the next start: one nominal period after the last for the timer, or now if that has passed (R118);
the owed moment for a trunk (R119). -/
def nextStart (tm : Timing) (p : Config.Profile) : Nat :=
  match tm.source with
  | .timer => max tm.now (tm.lastStart + Config.nominalPeriod p)
  | .trunk _ => max tm.now (tm.owed.getD tm.now)

/-- An output frame start is made: the counter advances by one, modulo 65536 (R117), and the start's moment becomes the
last start. -/
def advance (tm : Timing) (p : Config.Profile) : Timing :=
  { tm with counter := tm.counter + 1, now := tm.nextStart p, lastStart := tm.nextStart p, owed := none }

/-- The holdover count at a start (R125): decremented, and at 0 the state becomes FREE_RUN. -/
def holdoverTick (tm : Timing) : Timing :=
  match tm.state with
  | .holdover t c => { tm with state := if c ≤ 1 then .freeRun else .holdover t (c - 1) }
  | _ => tm

/-- The next output frame start is the one at which the holdover count reaches 0 (R125). -/
def holdoverDue (tm : Timing) : Bool :=
  match tm.state with
  | .holdover _ c => decide (c ≤ 1)
  | _ => false

/-- A trunk's delivered-frame count becomes 0 (R120). -/
def resetDelivered (tm : Timing) (t : Trunk) : Timing := { tm with delivered := tm.delivered.set t 0 }

end Timing

namespace State

/-- The timing unit takes new values, and REFERENCE_CHANGE is raised if its state or tracked trunk changed (R128). -/
def retime (s : State) (tm : Timing) : State :=
  let s1 := s.withTiming tm
  if Timing.reports s.timing.state tm.state then s1.raise .referenceChange (referenceDetail tm.state) else s1

/-- The unit evaluates the selection (R123, R124). -/
def evaluateReference (s : State) : State := s.retime s.timing.evaluate

/-- An output frame start is numbered (R117). -/
def advanceFrame (s : State) : State := s.withTiming (s.timing.advance s.profile)

/-- The holdover count at an output frame start (R125). -/
def holdoverStart (s : State) : State := s.retime s.timing.holdoverTick

/-- The timing unit counts a delivery on a trunk, and evaluates the selection if the trunk becomes qualified and is on the
list (R120, R123). -/
def countDelivery (s : State) (t : Trunk) : State :=
  let d := s.timing.delivered.get t
  let s1 := s.withTiming { s.timing with delivered := s.timing.delivered.set t (satInc 64 d) }
  if d = 63 ∧ t ∈ s.timing.refList then s1.evaluateReference else s1

/-- The timing unit makes or withholds the start that follows a delivery (R119, R127). It comes after every evaluation
that takes place at the delivery, since a hand-over begins with that delivery (R127). Where such an evaluation makes the
timer the source with a start due at once (R126), the hand-over test of the delivery comes before that start: the model's
choice, log entry 22. -/
def followDelivery (s : State) (t : Trunk) : State := s.withTiming (s.timing.takeDelivery t s.profile)

/-- The timing unit's part when a receiver leaves LOCKED: the count becomes 0 (R120); a trunk that is the source gives
way to the timer, unless a delivery too soon has already stopped it (R126, R127); and the selection is evaluated if the
trunk is tracked in TRACKING (R123). -/
def timingLosesTrunk (s : State) (t : Trunk) : State :=
  let tm := s.timing.resetDelivered t
  let tm1 : Timing := if tm.source = .trunk t then { tm with source := .timer, owed := none } else tm
  let s1 := s.withTiming tm1
  if s.timing.state = .tracking t then s1.evaluateReference else s1

end State

end Sys2Proof.Machine
end

