-- ==== Sys2Proof/Machine/Stores.lean ====
section
/-!
DEFINITION. The input stores (chapter 6) and the five counters of a trunk (R99): priming, delivery, designation, slips.
-/

namespace Sys2Proof.Machine

namespace TrunkCounters

def addCheckError (c : TrunkCounters) : TrunkCounters := { c with checkErrors := satInc 65535 c.checkErrors }
def addLockLoss (c : TrunkCounters) : TrunkCounters := { c with lockLosses := satInc 65535 c.lockLosses }
def addSequenceGap (c : TrunkCounters) : TrunkCounters := { c with sequenceGaps := satInc 65535 c.sequenceGaps }
def addDropSlip (c : TrunkCounters) : TrunkCounters := { c with dropSlips := satInc 65535 c.dropSlips }
def addRepeatSlip (c : TrunkCounters) : TrunkCounters := { c with repeatSlips := satInc 65535 c.repeatSlips }

end TrunkCounters

namespace State

/-- A trunk's counters changed by a function. -/
def countOn (s : State) (t : Trunk) (f : TrunkCounters → TrunkCounters) : State :=
  s.setReceiver t { s.receiver t with counters := f (s.receiver t).counters }

/-- The store of a trunk starts priming as its receiver enters LOCKED (R104). -/
def primeStore (s : State) (t : Trunk) : State := s.setStore t ⟨.priming, [], none⟩

/-- The store of a trunk goes to IDLE as its receiver leaves LOCKED: queue and current frame are discarded (R105). -/
def idleStore (s : State) (t : Trunk) : State := s.setStore t .idle

/-- The delivered frame record reaches the store (R106, R107): appended while the queue holds fewer than 3, and a
PRIMING store runs at a fill of 2; a full queue loses its oldest record to a drop slip. -/
def storeDelivery (s : State) (t : Trunk) (fr : FrameRecord) : State :=
  let v := s.store t
  match v.phase with
  | .idle => s
  | .priming =>
      s.setStore t ⟨if 2 ≤ v.queue.length + 1 then .running else .priming, v.queue ++ [fr], v.current⟩
  | .running =>
      if v.queue.length < 3 then s.setStore t { v with queue := v.queue ++ [fr] }
      else
        ((s.setStore t { v with queue := v.queue.drop 1 ++ [fr] }).countOn t .addDropSlip).raise
          .slip (slipDetail false t)

/-- One store designates its current frame at an output frame start (R108 to R110); a RUNNING store without a record
keeps its current frame and its fill. -/
def designate (s : State) (t : Trunk) : State :=
  let v := s.store t
  match v.phase with
  | .running =>
      match v.queue with
      | fr :: rest => s.setStore t { v with queue := rest, current := some fr }
      | [] => s
  | _ => s.setStore t { v with current := none }

/-- The four stores designate, in ascending order of trunk index (R108). -/
def designateAll (s : State) : State := (List.finRange 4).foldl designate s

/-- The trunks whose stores make a repeat slip at an output frame start, in ascending order (R109, R112). -/
def repeating (s : State) : List Trunk :=
  (List.finRange 4).filter fun t => (s.store t).phase == .running && (s.store t).queue.isEmpty

/-- A repeat slip is counted and raised (R109, R112). -/
def repeatSlip (s : State) (t : Trunk) : State :=
  (s.countOn t .addRepeatSlip).raise .slip (slipDetail true t)

end State

end Sys2Proof.Machine
end

