-- ==== Sys2Proof/Machine/Assembly.lean ====
section
/-!
DEFINITION. The receive assembler's own state (R133 to R137): the rejection and the abort of a message.
-/

namespace Sys2Proof.Machine

namespace RxCounters

/-- The receive counter of a cause rises by 1, saturating (R137). -/
def add (c : RxCounters) : MgmtCause → RxCounters
  | .length => { c with badLength := satInc 65535 c.badLength }
  | .check => { c with badCheck := satInc 65535 c.badCheck }
  | .kind => { c with badKind := satInc 65535 c.badKind }
  | .abort => { c with aborts := satInc 65535 c.aborts }
  | .overlong => { c with overlong := satInc 65535 c.overlong }

end RxCounters

namespace State

/-- The assembler in a new state. -/
def withAssembler (s : State) (a : Assembler) : State := s.withChannel { s.channel with assembler := a }

/-- A message is rejected or broken: the counter of the cause rises and MGMT_ERROR is raised with it (R137). -/
def mgmtError (s : State) (cause : MgmtCause) : State :=
  (s.withChannel { s.channel with rx := s.channel.rx.add cause }).raise .mgmtError cause.code

/-- The receiver of the management trunk leaves LOCKED: a message in COLLECT is aborted, a DISCARD ends without a count,
and GAP stays (R134). -/
def assemblerLosesLock (s : State) : State :=
  match s.channel.assembler with
  | .gap => s
  | .collect _ => (s.withAssembler .gap).mgmtError .abort
  | .discard => s.withAssembler .gap

end State

end Sys2Proof.Machine
end

