-- ==== Sys2Proof/Machine/Receivers.lean ====
section
/-!
DEFINITION. Finding, holding and losing alignment (R86 to R92) and the enabling of a receiver (R101).
-/

namespace Sys2Proof.Machine

/-- The bits a receiver in VERIFY must hold: two frames and the pattern (R89). -/
def heldLimit : Nat := 1236

namespace Receiver

/-- The receiver takes bits from its line; nothing is dropped yet. -/
def take (r : Receiver) (line : List Bool) : Receiver :=
  { r with received := r.received + line.length, held := r.held ++ line }

/-- The receiver keeps the most recent 1236 bits (R89). -/
def trim (r : Receiver) : Receiver := { r with held := r.held.drop (r.held.length - heldLimit) }

/-- The 12 bits received from a position onward are the alignment pattern (R88). -/
def patternAt (r : Receiver) (pos : Nat) : Bool :=
  let first := r.received - r.held.length
  decide (first ≤ pos) && decide (pos + 12 ≤ r.received)
    && ((r.held.drop (pos - first)).take 12 == bitsOf alignmentPattern)

/-- The first position that passes the test, of those still to be tested, in the order received (R88). -/
def findPattern (r : Receiver) : Option Nat :=
  ((List.range (r.received - r.testFrom)).map (r.testFrom + ·)).find? r.patternAt

/-- SEARCH tests every position it can: at the first that passes it takes the candidate and goes to VERIFY with verify
count 1; the positions that fail are not tested again (R88). -/
def search (r : Receiver) : Receiver :=
  match r.findPattern with
  | some pos => { r with align := .verify pos 1 }
  | none => { r with testFrom := max r.testFrom (r.received - 11) }

/-- The receiver goes to SEARCH with testing to begin at a position. -/
def toSearch (r : Receiver) (pos : Nat) : Receiver := { r with align := .search, testFrom := pos }

/-- What leaving LOCKED clears in the receiver: last FET and far end in fallback (R92); the remembered count goes with
the LOCKED state. -/
def clearFarEnd (r : Receiver) : Receiver := { r with lastFet := false, farInFallback := false }

def isLocked (r : Receiver) : Bool :=
  match r.align with
  | .locked _ _ _ => true
  | _ => false

/-- A receiver that SET_TRUNK disables: it receives nothing, its indicator is yes, last FET and far end in fallback are
0 (R87, R101). -/
def disable (r : Receiver) : Receiver :=
  { r.clearFarEnd with align := .disabled, signalPresent := true }

/-- A disabled receiver that SET_TRUNK enables: testing begins with the first bit received from then on (R87). -/
def enable (r : Receiver) : Receiver :=
  { r with align := .search, signalPresent := true, testFrom := r.received }

end Receiver

namespace State

/-- What a receiver's leaving LOCKED does at its neighbours: the store goes to IDLE (R105), the timing unit loses the
trunk (R120, R123, R126), and on the management trunk the assembler aborts (R134), as parts of the one transition
(R92). -/
def neighboursLoseLock (s : State) (t : Trunk) : State :=
  let s1 := (s.idleStore t).timingLosesTrunk t
  if t = s.mgmtTrunk then s1.assemblerLosesLock else s1

/-- LOCKED is lost by a fourth miss or by signal loss: the receiver becomes `r`, in SEARCH; LOCK_LOST is raised and the
lock-loss counter rises (R90 to R92). -/
def loseLock (s : State) (t : Trunk) (r : Receiver) : State :=
  let s1 := (s.setReceiver t r.clearFarEnd).countOn t .addLockLoss
  (s1.raise .lockLost (trunkDetail t)).neighboursLoseLock t

/-- A receiver enters LOCKED as `r`: LOCK_GAINED is raised, the store starts priming, the delivered-frame count starts
from 0 (R89). -/
def gainLock (s : State) (t : Trunk) (r : Receiver) : State :=
  let s1 := ((s.setReceiver t r).primeStore t)
  (s1.withTiming (s1.timing.resetDelivered t)).raise .lockGained (trunkDetail t)

/-- A receiver in SEARCH, with its signal present, takes bits of its line and tests positions (R88). A receiver in
another state finds no pattern. The run of bits may be of any length and go on past the pattern found; only the most recent
1236 bits are then held, and a boundary or a position to test again that is no longer among them counts as one without the
pattern: the model's choice, log entry 10. -/
def receiverSearches (s : State) (t : Trunk) (line : List Bool) : State :=
  let r := s.receiver t
  if r.align = .search ∧ r.signalPresent then s.setReceiver t ((r.take line).search).trim else s

/-- A receiver in VERIFY takes bits of its line and examines the next expected boundary, once its 12 bits are there
(R89). With the pattern absent it returns to SEARCH, tests the held positions after the candidate at once, and takes the
first that passes as its new candidate. -/
def receiverVerifies (s : State) (t : Trunk) (line : List Bool) : State :=
  let r := s.receiver t
  match r.align with
  | .verify c n =>
      let r1 := r.take line
      let pos := c + 612 * n
      if r1.received < pos + 12 then s.setReceiver t r1.trim
      else if r1.patternAt pos then
        if n < 2 then s.setReceiver t ({ r1 with align := .verify c (n + 1) } : Receiver).trim
        else s.gainLock t ({ r1 with align := .locked pos 0 none } : Receiver).trim
      else s.setReceiver t ((r1.toSearch (c + 1)).search).trim
  | _ => s

/-- A receiver in LOCKED examines the 12 bits at its next expected boundary (R90). -/
def receiverAtBoundary (s : State) (t : Trunk) (window : BitVec 12) : State :=
  let r := s.receiver t
  match r.align with
  | .locked c miss rem =>
      let r1 := (r.take (bitsOf window)).trim
      if window = alignmentPattern then s.setReceiver t { r1 with align := .locked (c + 612) 0 rem }
      else if miss < 3 then s.setReceiver t { r1 with align := .locked (c + 612) (miss + 1) rem }
      else s.loseLock t (r1.toSearch (c + 613))
  | _ => s

/-- 64 nominal bit periods have passed without a transition: a signal loss (R91). A disabled receiver does not watch its
line, and an indicator already at no does not become no again. -/
def receiverSignalLoss (s : State) (t : Trunk) : State :=
  let r := s.receiver t
  if r.align = .disabled ∨ r.signalPresent = false then s
  else
    let r1 := { r with align := .search, signalPresent := false }
    if r.isLocked then s.loseLock t r1 else s.setReceiver t r1

/-- The next transition after a signal loss: the indicator becomes yes, and testing resumes with the bit position at
which the transition is received (R88, R91). -/
def receiverSignalReturn (s : State) (t : Trunk) : State :=
  let r := s.receiver t
  if r.signalPresent then s
  else s.setReceiver t { r with signalPresent := true, testFrom := r.received }

/-- SET_TRUNK disable (R101): out of LOCKED with the effects of R92 and without LOCK_LOST or a lock-loss count. -/
def disableTrunk (s : State) (t : Trunk) : State :=
  let r := s.receiver t
  let s1 := s.setReceiver t r.disable
  if r.isLocked then s1.neighboursLoseLock t else s1

/-- SET_TRUNK enable (R87, R101). -/
def enableTrunk (s : State) (t : Trunk) : State :=
  let r := s.receiver t
  if r.align = .disabled then s.setReceiver t r.enable else s

end State

end Sys2Proof.Machine
end

