-- ==== Sys2Proof/Machine/Exchange.lean ====
section
/-!
DEFINITION. The exchange (chapter 2): the frame bank, the values of source terms, the four entry modes, and the frames
the output trunks send.
-/

namespace Sys2Proof.Machine

/-! ### Source terms (R31) -/

/-- A sample negated, −32768 becoming 32767 (R31). -/
def negateSample (x : Half) : Half := if x = 0x8000#16 then 0x7FFF#16 else -x

/-- The sample of a term value: shifted arithmetically right, then negated if the invert flag is set (R31). -/
def Term.scale (t : Term) (x : Half) : Half :=
  let y := x.sshiftRight t.shift.val
  if t.invert then negateSample y else y

/-! ### Mixing (R35, R36) -/

/-- A sum saturated to the 16-bit range (R35). -/
def saturate (x : Int) : Half := BitVec.ofInt 16 (max (-32768) (min 32767 x))

/-- The sum lay outside the 16-bit range (R35). -/
def overflows (x : Int) : Bool := decide (x < -32768) || decide (32767 < x)

/-- What a term contributes to a mix: its sample if DATA, else 0 (R35). -/
def contribution (v : SlotRecord) : Int := if v.qual = .data then v.sample.toInt else 0

/-- The exact sum of the contributions (R35). -/
def mixSum (vs : List SlotRecord) : Int := (vs.map contribution).sum

/-- The output slot of a MIX entry from the values of its terms (R35, R36). -/
def mixSlot (vs : List SlotRecord) : SlotRecord :=
  if vs.any (fun v => v.qual == .data) then ⟨saturate (mixSum vs), .data⟩
  else if vs.any (fun v => v.qual == .fault) then ⟨0, .fault⟩
  else ⟨0, .idle⟩

namespace State

/-- The value of a source term: the scaled sample, with the qualifier as read (R31). -/
def termValue (s : State) (t : Term) : SlotRecord :=
  let r := s.readInput t.trunk t.slot
  ⟨t.scale r.sample, r.qual⟩

/-- The traffic slot an entry gives, under the protection record at its index (R32 to R36). -/
def trafficSlot (s : State) (entry : Entry) (r : ProtRecord) : SlotRecord :=
  match entry with
  | .off => ⟨0, .idle⟩
  | .fixed x q => ⟨x, q.toQual⟩
  | .route p none => s.termValue p
  | .route p (some a) => if r.usesAlternate then s.termValue a.term else s.termValue p
  | .mix ts => mixSlot (ts.map s.termValue)

/-- The entry is a MIX whose sum saturates in this frame (R35, R37). -/
def mixClips (s : State) (entry : Entry) : Bool :=
  match entry with
  | .mix ts => overflows (mixSum (ts.map s.termValue))
  | _ => false

/-- The MIX_CLIP occurrences of a frame, in ascending order of index; the reserved entry is not built (R37, R38). -/
def clipEvents (s : State) (entries : Table 128 Entry) : List (Event × Half) :=
  ((List.finRange 128).filter fun i => i != s.reserved && s.mixClips (entries.get i)).map
    fun i => (.mixClip, indexDetail i)

/-- An output slot: the transmitter's word in the output management slot (R38), the entry's slot elsewhere. -/
def outputSlot (s : State) (entries : Table 128 Entry) (word : SlotRecord) (i : Fin 128) : SlotRecord :=
  if i = s.reserved then word else s.trafficSlot (entries.get i) (s.protection.get i)

/-- FET on an output trunk: set while the matching receiver is in SEARCH or VERIFY (R40). -/
def fetOf (s : State) (t : Trunk) : Bool :=
  match (s.receiver t).align with
  | .search => true
  | .verify _ _ => true
  | .locked _ _ _ => false
  | .disabled => false

/-- The frame an output trunk sends (R38 to R43): the frame count is the frame number modulo 16 (R39), FB says that the
frame bank is F (R41). -/
def outputFrame (s : State) (l : Latched) (word : SlotRecord) (t : Trunk) : WireFrame :=
  sentFrame (s.timing.counter.extractLsb' 0 4) (s.fetOf t) (l.bank == .f)
    (Table.ofFn fun sl => s.outputSlot l.entries word (slotIndex t sl))

/-- The live bank as it stands, latched as frame bank with its entries (R27). -/
def latchedNow (s : State) : Latched := ⟨s.liveBank, (s.bank s.liveBank).entries⟩

/-- The frame bank is latched, and at a change of frame bank the protection records are adjusted against the previous
entry set (R26, R27, R29, R60); what the activation of a RESUME compares besides has been done by then
(`protectResume`). A SWITCH that activates in LAPSED at the first start after a FALLBACK meets a change of frame bank to F,
which is compared (R61), though R69 says that such a start keeps the records: the model's choice, log entry 23. -/
def latchFrameBank (s : State) : State :=
  let new := s.latchedNow
  let s1 := s.withExchange { s.exchange with latched := some new }
  match s.exchange.latched with
  | some old => if old.bank = new.bank then s1 else s1.restUnequal old.entries new.entries
  | none => s1

/-- The exchange and the protection unit at an output frame start: latch, selection, and the occurrences of both (R27,
R37, R49). -/
def exchangeStart (s : State) : State :=
  let s1 := s.latchFrameBank
  let entries := s1.latchedNow.entries
  let s2 := s1.protectFrame entries
  s2.raiseAll (s2.clipEvents entries)

/-- The frames of the four output trunks are settled with the transmitter's word (R28, R38). -/
def settleFrames (s : State) (word : SlotRecord) : State :=
  match s.exchange.latched with
  | some l => s.withExchange { s.exchange with output := some (Table.ofFn (s.outputFrame l word)) }
  | none => s

end State

end Sys2Proof.Machine
end

