-- ==== Sys2Proof/Machine/Requests.lean ====
section
/-!
DEFINITION. The requests (chapters 1, 3 to 5, 7 to 10): for each, the checks in the order its rule gives, its effect and
the payload of its response (R186). A request is judged and carried out against the state at its execution (R142).
-/

namespace Sys2Proof.Machine

/-- What an execution gives: the status, the response payload, and the state it leaves (R142, R143). -/
structure Reply where
  status : Status
  payload : List Byte
  state : State
deriving DecidableEq, Repr

/-- A refusal with an empty payload changes no state (R142, R186). -/
def refuse (s : State) (st : Status) : Reply := ⟨st, [], s⟩

/-! ### Payloads shared by several responses (R186) -/

/-- Straps as sampled: bits 7–6 MTRUNK, bits 5–4 RATE, bit 3 SUPV (R186); the bits not named are 0, the model's choice,
log entry 25. -/
def strapsOctet (p : Straps) : Byte := BitVec.ofNat 2 p.mtrunk.val ++ p.rate ++ BitVec.ofBool p.supv ++ (0#3)

/-- The record at an index as READ_PROTECTION returns it (R59). -/
def State.protectionPayload (s : State) (i : Fin 128) : List Byte :=
  let r := s.protection.get i
  [indexOctet i, r.state.code, BitVec.ofNat 8 r.count, r.command.code, mark (s.protectedAt i)]

/-- The five counters of a trunk, in the order of R100. -/
def TrunkCounters.payload (c : TrunkCounters) : List Byte :=
  natOctets c.checkErrors ++ natOctets c.lockLosses ++ natOctets c.sequenceGaps
    ++ natOctets c.dropSlips ++ natOctets c.repeatSlips

/-- State, count and lapse cause, as every KEEP response reports them (R158). -/
def Supervision.keepPayload (v : Supervision) : List Byte :=
  v.state.code :: (natOctets v.state.count ++ [v.state.causeCode])

/-- State, enabled, period, count and lapse cause (R165). -/
def Supervision.payload (v : Supervision) : List Byte :=
  [v.state.code, mark v.enabled] ++ octets v.period ++ natOctets v.state.count ++ [v.state.causeCode]

/-- One trunk's octet of READ_STATUS (R186); bit 1, not named, is 0, the model's choice, log entry 25. -/
def State.trunkStatus (s : State) (t : Trunk) : Byte :=
  (s.receiver t).align.code ++ (s.store t).phase.code ++ BitVec.ofNat 2 (s.store t).queue.length
    ++ (0#1) ++ BitVec.ofBool (s.receiver t).farInFallback

/-- The 36 octets of READ_STATUS, all taken at one moment (R64, R153, R186). -/
def State.statusPayload (s : State) : List Byte :=
  (List.finRange 4).map s.trunkStatus
  ++ [BitVec.zeroExtend 8 s.timing.state.code, trunkOctet s.timing.state.trunk?] ++ octets s.timing.counter
  ++ [s.liveBank.code, s.currentBank.code]
  ++ octets s.map.bank0.editCount ++ octets s.map.bank1.editCount ++ octets s.map.bankF.editCount
  ++ [mark s.map.frozen]
  ++ [s.supervision.state.code] ++ natOctets s.supervision.state.count
  ++ [pendingKind s.operation] ++ octets (pendingFrame s.operation)
  ++ [BitVec.ofNat 8 (pendingProgress s.operation)]
  ++ octets s.events.flags
  ++ natOctets s.channel.rx.badCheck ++ natOctets s.channel.rx.badLength ++ natOctets s.channel.rx.aborts
  ++ natOctets s.channel.rx.overlong ++ natOctets s.channel.rx.badKind

/-- The notice states of four events in one octet, the first in bits 7–6 (R186). -/
def EventUnit.noticeOctet (u : EventUnit) (i : Fin 4) : Byte :=
  let code : Fin 4 → BitVec 2 := fun k => (u.records.get ⟨4 * i.val + k.val, by omega⟩).notice.code
  code 0 ++ code 1 ++ code 2 ++ code 3

/-- The 56 octets of READ_EVENTS (R179, R186). -/
def EventUnit.payload (u : EventUnit) : List Byte :=
  octets u.flags ++ octets u.mask ++ (List.finRange 4).map u.noticeOctet
  ++ u.records.items.flatMap fun r => BitVec.ofNat 8 r.count :: octets r.detail

/-- The deferred operation as a CANCEL that ends it reports it, with the destination's edit count (R78, R79, R186). -/
def PendingOp.payload (destEdit : Half) : PendingOp → List Byte
  | .switch seq n expected =>
      [1, seq] ++ octets n ++ [mark expected.isSome] ++ octets (expected.getD 0) ++ [0, 0, 0, 0, 0]
  | .resume seq n => [2, seq] ++ octets n ++ [0, 0, 0, 0, 0, 0, 0, 0]
  | .copy seq src dst n =>
      [3, seq, 0, 0, 0, 0, 0, src.code, dst.code, BitVec.ofNat 8 n] ++ octets destEdit

/-- A presence mark holds the value present or the value absent (R66). -/
def markOk (b : Byte) : Bool := b == 0 || b == 1

namespace State

/-! ### The connection map (chapter 1) -/

/-- The bank checks WRITE_ENTRY and CLEAR_BANK share, in order: live, frozen, held (R14 to R16, R21). -/
def bankRefusal (s : State) (b : BankId) : Option Status :=
  if b = s.liveBank then some .liveBank
  else if s.frozenBank b then some .frozen
  else if s.holdsBank b then some .bankBusy
  else none

/-- The entry names the input management slot, or the index is the reserved one (R13). -/
def namesReserved (s : State) (i : Fin 128) (e : Entry) : Bool :=
  i == s.reserved || e.allTerms.any fun t => t.input == (s.mgmtTrunk, 31)

/-- The target entry is replaced whole and the bank's edit count rises by 1 (R17). -/
def putEntry (s : State) (b : BankId) (i : Fin 128) (e : Entry) : State :=
  s.setBank b ⟨(s.bank b).entries.set i e, (s.bank b).editCount + 1⟩

/-- The index an octet names, none above 127. -/
def indexOf (b : Byte) : Option (Fin 128) := if h : b.toNat < 128 then some ⟨b.toNat, h⟩ else none

/-- The trunk an octet names, none above 3. -/
def trunkOf (b : Byte) : Option Trunk := if h : b.toNat < 4 then some ⟨b.toNat, h⟩ else none

/-- WRITE_ENTRY (R10 to R17). -/
def doWriteEntry (s : State) (p : List Byte) : Reply :=
  let e := p.drop 2
  if p.length ≠ 2 + entryLength e then refuse s .badLength
  else
    match BankId.ofCode (byteAt p 0), indexOf (byteAt p 1), entryFieldsOk e with
    | some b, some i, true =>
        if !entryShapeOk e then refuse s .badEntry
        else if s.namesReserved i (entryOf e) then refuse s .reservedSlot
        else
          match s.bankRefusal b with
          | some st => refuse s st
          | none => ⟨.ok, octets ((s.bank b).editCount + 1), s.putEntry b i (entryOf e)⟩
    | _, _, _ => refuse s .badField

/-- The bank a READ_ENTRY selector names: a bank, or the live bank for LIVE (R19). -/
def selectBank (s : State) (b : Byte) : Option BankId := if b = 3 then some s.liveBank else BankId.ofCode b

/-- READ_ENTRY (R19, R20). -/
def doReadEntry (s : State) (p : List Byte) : Reply :=
  if p.length ≠ 2 then refuse s .badLength
  else
    match s.selectBank (byteAt p 0), indexOf (byteAt p 1) with
    | some b, some i =>
        ⟨.ok, b.code :: (octets (s.bank b).editCount ++ [mark (s.copyInto b)] ++ ((s.bank b).entries.get i).octets), s⟩
    | _, _ => refuse s .badField

/-- CLEAR_BANK (R21): the whole clear takes effect at one moment, the reserved entry included (R23). -/
def doClearBank (s : State) (p : List Byte) : Reply :=
  if p.length ≠ 1 then refuse s .badLength
  else
    match BankId.ofCode (byteAt p 0) with
    | none => refuse s .badField
    | some b =>
        match s.bankRefusal b with
        | some st => refuse s st
        | none =>
            ⟨.ok, octets ((s.bank b).editCount + 1),
              s.setBank b ⟨Table.fill 128 .off, (s.bank b).editCount + 1⟩⟩

/-! ### Bank switching and copying (chapter 4) -/

/-- SWITCH (R66, R67). -/
def doSwitch (s : State) (r : Request) : Reply :=
  let p := r.payload
  let n := s.resolveFrame (byteAt p 0 == 1) (halfAt p 1)
  let expected := if byteAt p 3 = 1 then some (halfAt p 4) else none
  let shadowEdit := (s.bank s.shadowBank).editCount
  if p.length ≠ 6 then refuse s .badLength
  else if !(markOk (byteAt p 0) && markOk (byteAt p 3)) then refuse s .badField
  else if s.operation.isSome then refuse s .opBusy
  else if !s.frameAhead n then refuse s .tooLate
  else if expected.isSome ∧ expected ≠ some shadowEdit then ⟨.editMismatch, octets shadowEdit, s⟩
  else ⟨.accepted, octets n ++ octets shadowEdit, s.withOperation (some (.switch r.seq n expected))⟩

/-- RESUME (R71). An empty payload is refused with BAD_LENGTH, as R71 and R186 have it, though a worked example of
chapter 8 executes one: the model's choice, log entry 24. -/
def doResume (s : State) (r : Request) : Reply :=
  let p := r.payload
  let n := s.resolveFrame (byteAt p 0 == 1) (halfAt p 1)
  if p.length ≠ 3 then refuse s .badLength
  else if !markOk (byteAt p 0) then refuse s .badField
  else if s.operation.isSome then refuse s .opBusy
  else if !s.isLapsed then refuse s .state
  else if !s.frameAhead n then refuse s .tooLate
  else
    ⟨.accepted, octets n ++ octets (s.bank s.currentBank).editCount, s.withOperation (some (.resume r.seq n))⟩

/-- COPY (R73, R74). -/
def doCopy (s : State) (r : Request) : Reply :=
  let p := r.payload
  if p.length ≠ 2 then refuse s .badLength
  else
    match BankId.ofCode (byteAt p 0), BankId.ofCode (byteAt p 1) with
    | some src, some dst =>
        if src = dst then refuse s .badField
        else if s.operation.isSome then refuse s .opBusy
        else if dst = s.liveBank then refuse s .liveBank
        else if s.frozenBank dst then refuse s .frozen
        else
          ⟨.accepted, octets (s.bank src).editCount, s.withOperation (some (.copy r.seq src dst 0))⟩
    | _, _ => refuse s .badField

/-- What a CANCEL does to the operation it ends: a SWITCH or RESUME is cancelled with cause REQUEST (R78), a COPY is
abandoned (R79). -/
def cancelOperation (s : State) : PendingOp → State
  | .switch seq _ _ => (s.withOperation none).raise .opCancelled (cancelDetail false .request seq)
  | .resume seq _ => (s.withOperation none).raise .opCancelled (cancelDetail true .request seq)
  | .copy seq _ dst _ => s.abandonCopy seq dst

/-- The edit count a CANCEL reports: the destination's after the increase (R79). -/
def cancelEdit (s : State) : PendingOp → Half
  | .copy _ _ dst _ => (s.bank dst).editCount + 1
  | _ => 0

/-- CANCEL (R78, R79). -/
def doCancel (s : State) (p : List Byte) : Reply :=
  if p ≠ [] then refuse s .badLength
  else
    match s.operation with
    | none => refuse s .state
    | some op => ⟨.ok, op.payload (s.cancelEdit op), s.cancelOperation op⟩

/-! ### Source protection (chapter 3) -/

/-- READ_PROTECTION (R59). -/
def doReadProtection (s : State) (p : List Byte) : Reply :=
  if p.length ≠ 1 then refuse s .badLength
  else
    match indexOf (byteAt p 0) with
    | some i => ⟨.ok, s.protectionPayload i, s⟩
    | none => refuse s .badField

/-- The record at an index takes a command (R57, R58). -/
def commandRecord (s : State) (i : Fin 128) (c : ProtCommand) : State :=
  s.withProtection (s.protection.set i ((s.protection.get i).commanded c))

/-- PROTECTION_COMMAND (R56 to R58). -/
def doProtectionCommand (s : State) (p : List Byte) : Reply :=
  if p.length ≠ 2 then refuse s .badLength
  else
    match indexOf (byteAt p 0), ProtCommand.ofCode (byteAt p 1) with
    | some i, some c =>
        if i = s.reserved then refuse s .reservedSlot
        else if !((s.bank s.liveBank).entries.get i).hasAlternate then refuse s .badEntry
        else ⟨.ok, (s.commandRecord i c).protectionPayload i, s.commandRecord i c⟩
    | _, _ => refuse s .badField

/-! ### Trunk receivers (chapter 5) -/

/-- SET_TRUNK (R101). -/
def doSetTrunk (s : State) (p : List Byte) : Reply :=
  if p.length ≠ 2 then refuse s .badLength
  else
    match trunkOf (byteAt p 0), markOk (byteAt p 1) with
    | some t, true =>
        let enable := byteAt p 1 == 1
        if !enable ∧ t = s.mgmtTrunk then refuse s .notPermitted
        else
          let s1 := if enable then s.enableTrunk t else s.disableTrunk t
          ⟨.ok, [trunkOctet (some t), BitVec.zeroExtend 8 (s1.receiver t).align.code], s1⟩
    | _, _ => refuse s .badField

/-- READ_COUNTERS (R100): the counters are read, and with the clear flag set become 0 at the same moment. -/
def doReadCounters (s : State) (p : List Byte) : Reply :=
  if p.length ≠ 2 then refuse s .badLength
  else
    match trunkOf (byteAt p 0), markOk (byteAt p 1) with
    | some t, true =>
        ⟨.ok, trunkOctet (some t) :: (s.receiver t).counters.payload,
          if byteAt p 1 = 1 then s.countOn t (fun _ => .zero) else s⟩
    | _, _ => refuse s .badField

/-! ### Frame timing (chapter 7) -/

/-- The qualified marks: bit t for trunk t (R122, R186); bits 7 to 4, not named, are 0, the model's choice, log entry
25. -/
def qualifiedMarks (s : State) : Byte := BitVec.ofFnLE fun k : Fin 8 =>
  if h : k.val < 4 then s.timing.qualified ⟨k.val, h⟩ else false

/-- The list is replaced whole and the selection evaluated at once (R122). -/
def replaceReferences (s : State) (l : List Trunk) : State :=
  (s.withTiming { s.timing with refList := l }).evaluateReference

/-- SET_REFERENCE (R121, R122). -/
def doSetReference (s : State) (p : List Byte) : Reply :=
  let n := (byteAt p 0).toNat
  let named := (p.drop 1).map trunkOf
  let l := named.filterMap id
  if p.length ≠ 1 + n then refuse s .badLength
  else if 4 < n ∨ !named.all Option.isSome ∨ !decide l.Nodup then refuse s .badField
  else
    let s1 := s.replaceReferences l
    ⟨.ok, [BitVec.zeroExtend 8 s1.timing.state.code, trunkOctet s1.timing.state.trunk?, s.qualifiedMarks], s1⟩

/-! ### Supervision (chapter 9) -/

/-- A KEEP whose checks pass (R159, R160). -/
def keepAlive (s : State) (phase : KeepPhase) : Status × State :=
  let v := s.supervision
  match v.state with
  | .watching _ =>
      if v.lastPhase = some phase then (.stale, s.raise .staleKeep 0)
      else (.ok, s.withSupervision { v with state := .watching v.period.toNat, lastPhase := some phase })
  | _ => (.ok, s.withSupervision { v with lastPhase := some phase })

/-- KEEP (R158 to R160). -/
def doKeep (s : State) (p : List Byte) : Reply :=
  if p.length ≠ 1 then refuse s .badLength
  else
    match KeepPhase.ofCode (byteAt p 0) with
    | none => refuse s .badField
    | some phase =>
        let (st, s1) := s.keepAlive phase
        ⟨st, s1.supervision.keepPayload, s1⟩

/-- The supervision record after an accepted SET_SUPERVISION with this period (R165). -/
def periodSet (v : Supervision) (period : Half) : Supervision :=
  if period = 0 then
    { v with
      enabled := false
      state := match v.state with
        | .watching _ => .off
        | other => other }
  else
    { v with
      enabled := true
      period := period
      state := match v.state with
        | .lapsed c => .lapsed c
        | _ => .watching period.toNat }

/-- SET_SUPERVISION (R165). -/
def doSetSupervision (s : State) (p : List Byte) : Reply :=
  let period := halfAt p 0
  if p.length ≠ 2 then refuse s .badLength
  else if 1 ≤ period.toNat ∧ period.toNat ≤ 255 then refuse s .badField
  else if period = 0 ∧ s.straps.supv then refuse s .notPermitted
  else
    let v := periodSet s.supervision period
    ⟨.ok, v.payload, s.withSupervision v⟩

/-- FALLBACK (R164). -/
def doFallback (s : State) (p : List Byte) : Reply :=
  if p ≠ [] then refuse s .badLength
  else if s.isLapsed then ⟨.state, [s.supervision.state.causeCode], s⟩
  else ⟨.ok, octets (s.timing.counter + 1), s.lapseByRequest⟩

/-- FREEZE_FALLBACK (R6, R167). -/
def doFreezeFallback (s : State) (p : List Byte) : Reply :=
  if p ≠ [] then refuse s .badLength
  else if s.map.frozen then refuse s .state
  else if s.copyInto .f then refuse s .bankBusy
  else ⟨.ok, octets s.map.bankF.editCount, s.withMap { s.map with frozen := true }⟩

/-! ### Events (chapter 10) -/

/-- READ_EVENTS (R179). -/
def doReadEvents (s : State) (p : List Byte) : Reply :=
  if p ≠ [] then refuse s .badLength else ⟨.ok, s.events.payload, s⟩

/-- ACK_EVENTS (R178). -/
def doAckEvents (s : State) (p : List Byte) : Reply :=
  if p.length ≠ 2 then refuse s .badLength
  else
    let s1 := s.acknowledge (halfAt p 0)
    ⟨.ok, octets s1.events.flags, s1⟩

/-- SET_EVENTS (R176). -/
def doSetEvents (s : State) (p : List Byte) : Reply :=
  if p.length ≠ 3 then refuse s .badLength
  else
    let s1 := s.setMask (halfAt p 0) (byteAt p 2)
    ⟨.ok, octets s1.events.mask ++ [s1.events.interval], s1⟩

/-! ### The channel's own requests (chapter 8) -/

/-- IDENTIFY (R152). -/
def doIdentify (s : State) (p : List Byte) : Reply :=
  if p ≠ [] then refuse s .badLength
  else
    ⟨.ok, [0x1C, 0x64, 0x12, 0x01, BitVec.zeroExtend 8 s.straps.unit, strapsOctet s.straps], s⟩

/-- READ_STATUS (R153). -/
def doReadStatus (s : State) (p : List Byte) : Reply :=
  if p ≠ [] then refuse s .badLength else ⟨.ok, s.statusPayload, s⟩

/-- What RESTART does before it is answered (R154): queues, cache, assembler, receive counters and streak, every event
record, and the last keep phase; a message in transmission goes on, detached from its record. -/
def restarted (s : State) : State :=
  let s1 := s.withdraw fun _ => true
  let s2 := s1.withChannel
    { s1.channel with
      txQueue := []
      streak := 0
      requests := []
      assembler := .gap
      rx := ⟨0, 0, 0, 0, 0⟩
      cache := [] }
  (s2.clearRecords fun _ => true).withSupervision { s2.supervision with lastPhase := none }

/-- RESTART (R154). -/
def doRestart (s : State) (p : List Byte) : Reply :=
  if p ≠ [] then refuse s .badLength else ⟨.ok, [], s.restarted⟩

/-! ### Execution (R142) -/

/-- The request a code names, carried out (R142). -/
def perform (s : State) (k : ReqKind) (r : Request) : Reply :=
  match k with
  | .identify => s.doIdentify r.payload
  | .readStatus => s.doReadStatus r.payload
  | .restart => s.doRestart r.payload
  | .writeEntry => s.doWriteEntry r.payload
  | .readEntry => s.doReadEntry r.payload
  | .clearBank => s.doClearBank r.payload
  | .switch => s.doSwitch r
  | .cancel => s.doCancel r.payload
  | .copy => s.doCopy r
  | .readProtection => s.doReadProtection r.payload
  | .protectionCommand => s.doProtectionCommand r.payload
  | .setTrunk => s.doSetTrunk r.payload
  | .readCounters => s.doReadCounters r.payload
  | .setReference => s.doSetReference r.payload
  | .keep => s.doKeep r.payload
  | .setSupervision => s.doSetSupervision r.payload
  | .fallback => s.doFallback r.payload
  | .resume => s.doResume r
  | .freezeFallback => s.doFreezeFallback r.payload
  | .readEvents => s.doReadEvents r.payload
  | .ackEvents => s.doAckEvents r.payload
  | .setEvents => s.doSetEvents r.payload

/-- A request is executed: a code that names no request gives BAD_CODE, else the request's own checks and effect
(R142). -/
def execute (s : State) (r : Request) : Reply :=
  match ReqKind.ofCode r.code with
  | some k => s.perform k r
  | none => refuse s .badCode

end State

end Sys2Proof.Machine
end

