-- ==== Sys2Proof/Machine/Channel.lean ====
section
/-!
DEFINITION. The management channel (chapter 8): the end of an execution, the request processor, the response cache, the
transmit queue, admission, the receive assembler's words, and the transmitter.
-/

namespace Sys2Proof.Machine

/-- A request addressed to every part (R136). -/
def Request.isBroadcast (r : Request) : Bool := r.unit == 15

/-- The key by which admission knows a request again (chapter 8.4). -/
def Request.key (r : Request) : Byte × Half := (r.seq, r.check)

namespace State

/-! ### The end of an execution (R143 to R145) -/

/-- The response of an execution (R143), and of admission's FULL (R140). -/
def responseTo (s : State) (r : Request) (st : Status) (payload : List Byte) : Message :=
  ⟨.response, s.straps.unit, r.seq, r.code, st, payload⟩

/-- A request enters the response cache (R144): an entry with the same sequence number is removed, else the oldest of
4; the new entry is the newest. -/
def cached (l : List CacheEntry) (e : CacheEntry) : List CacheEntry :=
  if l.any fun x => x.seq == e.seq then l.filter (fun x => x.seq != e.seq) ++ [e]
  else if 4 ≤ l.length then l.drop 1 ++ [e]
  else l ++ [e]

/-- The processor offers a response: it is placed at the tail of the transmit queue, or held in WAITING_TX (R145). -/
def placeResponse (s : State) (r : Request) (m : Message) : State :=
  if roomForResponse s.channel.txQueue then
    s.withChannel { s.channel with txQueue := s.channel.txQueue ++ [.response m] }
  else s.withChannel { s.channel with held := some ⟨r.seq, r.check, m⟩ }

/-- The end of an execution: the request enters the cache, and a unicast request's response is offered (R143 to
R145). -/
def complete (r : Request) (reply : Reply) : State :=
  let s := reply.state
  let m := s.responseTo r reply.status reply.payload
  let entry : CacheEntry := ⟨r.seq, r.check, if r.isBroadcast then none else some m⟩
  let s1 := s.withChannel { s.channel with cache := cached s.channel.cache entry }
  if r.isBroadcast then s1 else s1.placeResponse r m

/-- One request executed whole (R142). -/
def carryOut (s : State) (r : Request) : State := complete r (s.execute r)

/-- The processor in IDLE takes the oldest request and executes it, again while it is IDLE and requests wait (R142). The
fuel is the length of the queue, which no execution makes longer. -/
def runProcessor : Nat → State → State
  | 0, s => s
  | n + 1, s =>
    match s.channel.held, s.channel.requests with
    | none, r :: rest => runProcessor n ((s.withChannel { s.channel with requests := rest }).carryOut r)
    | _, _ => s

/-- The processor runs until it waits or no request is left. -/
def process (s : State) : State := runProcessor s.channel.requests.length s

/-! ### Room in the transmit queue (R146) -/

/-- The held response is placed if the queue can take it; the processor is then IDLE and takes the next request at once
(R145, R146 step 1). -/
def placeHeld (s : State) : State :=
  match s.channel.held with
  | some h =>
      if roomForResponse s.channel.txQueue then
        process (s.withChannel { s.channel with held := none, txQueue := s.channel.txQueue ++ [.response h.response] })
      else s
  | none => s

/-- Room that appears goes first to the held response, then to owed notices (R146). -/
def handOutRoom (s : State) : State := offerNotices s.placeHeld

/-! ### Admission (R138 to R141) -/

/-- A request with this key waits in the queue or is held by the processor (R138). -/
def inFlight (s : State) (r : Request) : Bool :=
  (s.channel.requests.any fun q => q.key == r.key)
  || (match s.channel.held with
      | some h => (h.seq, h.check) == r.key
      | none => false)

/-- The cache entry with this key (R139). -/
def cacheHit (s : State) (r : Request) : Option CacheEntry :=
  s.channel.cache.find? fun e => (e.seq, e.check) == r.key

/-- Admission offers a response: it is placed, or dropped with TX_OVERFLOW (R139, R140, R150). -/
def offerResponse (s : State) (m : Message) (isCached : Bool) : State :=
  if roomForResponse s.channel.txQueue then
    s.withChannel { s.channel with txQueue := s.channel.txQueue ++ [.response m] }
  else s.raise .txOverflow (overflowDetail isCached m.seq)

/-- An admitted request joins the tail of the queue, and a processor in IDLE takes it at that moment (R141, R142). -/
def enqueue (s : State) (r : Request) : State :=
  process (s.withChannel { s.channel with requests := s.channel.requests ++ [r] })

/-- Admission: the first of the four tests that applies decides (R138 to R141). -/
def admission (s : State) (r : Request) : State :=
  if s.inFlight r then s
  else
    match s.cacheHit r with
    | some e =>
        match e.result with
        | some m => s.offerResponse m true
        | none => s
    | none =>
        if 4 ≤ s.channel.requests.length then
          if r.isBroadcast then s else s.offerResponse (s.responseTo r .full []) false
        else s.enqueue r

/-- The unit address names this part or every part (R136 step 4). -/
def addressed (s : State) (unit : BitVec 4) : Bool := unit == s.straps.unit || unit == 15

/-- A request whose length, check and kind are right: ignored if it is for another part, else admitted (R136). -/
def receiveRequest (s : State) (r : Request) : State := if s.addressed r.unit then s.admission r else s

/-! ### The receive assembler (R133 to R136) -/

/-- The verdict on the words of a message (R136 steps 1 to 3): the cause of its rejection, or its request. -/
def judge (words : List Half) : Except MgmtCause Request :=
  let o := wordOctets words
  let len := (byteAt o 4).toNat
  if words.length < 3 ∨ 56 < len ∨ (2 * words.length ≠ 7 + len ∧ 2 * words.length ≠ 8 + len) then .error .length
  else if crcOctets (o.take (5 + len)) ≠ halfAt o (5 + len) then .error .check
  else if (byteAt o 0).extractLsb' 6 2 ≠ 0 then .error .kind
  else
    .ok ⟨(byteAt o 0).extractLsb' 0 4, byteAt o 1, byteAt o 2, (o.drop 5).take len, halfAt o (5 + len)⟩

/-- A collected message is evaluated at the IDLE word that ends it; the assembler is then in GAP (R133, R136). -/
def evaluateMessage (s : State) (words : List Half) : State :=
  let s1 := s.withAssembler .gap
  match judge words with
  | .error cause => s1.mgmtError cause
  | .ok r => s1.receiveRequest r

/-- The assembler takes one word of the input management slot (R131, R133 to R135). -/
def takeWord (s : State) (w : SlotRecord) : State :=
  match s.channel.assembler, w.qual with
  | .gap, .data => s.withAssembler (.collect [w.sample])
  | .gap, _ => s
  | .collect words, .data =>
      if words.length < 32 then s.withAssembler (.collect (words ++ [w.sample]))
      else (s.withAssembler .discard).mgmtError .overlong
  | .collect words, .idle => s.evaluateMessage words
  | .collect _, _ => (s.withAssembler .gap).mgmtError .abort
  | .discard, .idle => s.withAssembler .gap
  | .discard, _ => s

/-! ### The transmitter (R147, R148) -/

/-- The message the transmitter in IDLE chooses from a queue, and the streak after the choice (R148). -/
def choose (q : List TxItem) (streak : Nat) : Option (TxItem × Nat) :=
  match q.find? (fun it => !it.isNotice), q.find? TxItem.isNotice with
  | none, none => none
  | some r, none => some (r, 0)
  | none, some n => some (n, 0)
  | some r, some n => if streak < 4 then some (r, streak + 1) else some (n, 0)

/-- The word of a message at an index, as it is handed (R38, R147). -/
def wordOf (it : TxItem) (k : Nat) : SlotRecord := ⟨it.message.words.getD k 0, .data⟩

/-- The IDLE word (R38). -/
def idleWord : SlotRecord := ⟨0, .idle⟩

/-- The word the transmitter hands at the coming output frame start (R147). -/
def wordDue (s : State) : SlotRecord :=
  match s.channel.transmitter with
  | .gap => idleWord
  | .sending it k _ => wordOf it k
  | .idle =>
      match choose s.channel.txQueue s.channel.streak with
      | some (it, _) => wordOf it 0
      | none => idleWord

/-- After the word at index `k` of a message: SENDING, or GAP if it was the last; a notice whose last word is handed is
reported to the event unit unless it is detached (R147, R174). -/
def afterWord (s : State) (it : TxItem) (k : Nat) (attached : Bool) : State :=
  if k + 1 < it.message.words.length then
    s.withChannel { s.channel with transmitter := .sending it (k + 1) attached }
  else
    let s1 := s.withChannel { s.channel with transmitter := .gap }
    match it, attached with
    | .notice e _, true => s1.noticeSent e
    | _, _ => s1

/-- The transmitter changes state at an output frame start (R147): a message it chooses leaves the queue, and the room
is handed out (R146). -/
def transmitStart (s : State) : State :=
  match s.channel.transmitter with
  | .gap => s.withChannel { s.channel with transmitter := .idle }
  | .sending it k attached => s.afterWord it k attached
  | .idle =>
      match choose s.channel.txQueue s.channel.streak with
      | none => s
      | some (it, streak) =>
          let s1 := s.withChannel { s.channel with txQueue := s.channel.txQueue.erase it, streak := streak }
          handOutRoom (s1.afterWord it 0 it.isNotice)

end State

end Sys2Proof.Machine
end

