-- ==== Sys2Proof/Machine/Starts.lean ====
section
/-!
DEFINITION. The output frame start (R117, R27, R49) as one operation, and its six commands: the start itself, and the
starts at which a SWITCH, a RESUME, an expiry, the end of a holdover or a re-notify falls due. The step of the copy
engine and the two commands of the transmit queue stand beside them.
-/

namespace Sys2Proof.Machine

namespace State

/-- An output frame start can be made: the part is out of reset, and the source of starts has one to make (R44, R118,
R119). -/
def startDue (s : State) : Bool := !s.resetHeld && s.timing.canStart

/-- Everything that comes before the frame is settled: the number, the supervision count and an expiry, a pending
activation, the holdover count, designation, the frame bank with the protection unit's and the mixes' work, and
re-notify (R27, R49, R70, R108, R117, R125, R162, R177). -/
def beforeSettling (s : State) : State :=
  (s.advanceFrame.superviseStart.activateDue.holdoverStart.designateAll.exchangeStart).renotifyStart

/-- An output frame start, whole: the frame is settled with the word the transmitter hands, and the transmitter goes on
(R28, R38, R147). The repeat slips of the start are taken after a RESTART that the transmitter's room lets in, so that
the event records it leaves behind hold them (R115). -/
def frameStart (s : State) : State :=
  let s1 := s.beforeSettling
  s.repeating.foldl repeatSlip (s1.settleFrames s1.wordDue).transmitStart

/-- The start is made if one can be; a source that has none to make makes none. -/
def makeStart (s : State) : State := if s.startDue then s.frameStart else s

/-- The next output frame start is the one at which the re-notify count reaches 0 (R177). -/
def renotifyDue (s : State) : Bool := s.events.interval != 0 && decide (s.events.renotify ≤ 1)

end State

/-- OUTPUT_FRAME_START (R117). -/
def execOutputFrameStart (s : State) : Host.Outcome State Fault Refusal := .next s.makeStart

/-- SWITCH_ACTIVATION (R68, R69, R70): the start at which a pending SWITCH is due. Without one due there is no such
start. -/
def execSwitchActivation (s : State) : Host.Outcome State Fault Refusal :=
  .next (if s.switchDue then s.makeStart else s)

/-- RESUME_ACTIVATION (R72): the start at which a pending RESUME is due. -/
def execResumeActivation (s : State) : Host.Outcome State Fault Refusal :=
  .next (if s.resumeDue then s.makeStart else s)

/-- SUPERVISION_EXPIRY (R162): the start at which the supervision count reaches 0. -/
def execSupervisionExpiry (s : State) : Host.Outcome State Fault Refusal :=
  .next (if s.expiryDue then s.makeStart else s)

/-- HOLDOVER_EXPIRY (R125): the start at which the holdover count reaches 0. -/
def execHoldoverExpiry (s : State) : Host.Outcome State Fault Refusal :=
  .next (if s.timing.holdoverDue then s.makeStart else s)

/-- RENOTIFY (R177): the start at which the re-notify count reaches 0. -/
def execRenotify (s : State) : Host.Outcome State Fault Refusal :=
  .next (if s.renotifyDue then s.makeStart else s)

/-- COPY_STEP (R22, R75, R76); the engine is held while RESET_N is low (R187). -/
def execCopyStep (s : State) : Host.Outcome State Fault Refusal :=
  .next (if s.resetHeld then s else s.copyEngineStep)

/-- HELD_RESPONSE_PLACED (R145, R146): room in the transmit queue goes to the held response, the processor goes on, and
what is left goes to owed notices. -/
def execHeldResponsePlaced (s : State) : Host.Outcome State Fault Refusal :=
  .next (if s.resetHeld then s else s.handOutRoom)

/-- NOTICE_OFFER (R173). -/
def execNoticeOffer (s : State) : Host.Outcome State Fault Refusal :=
  .next (if s.resetHeld then s else s.offerNotices)

end Sys2Proof.Machine
end

