-- ==== Sys2Proof/Machine/Line.lean ====
section
/-!
DEFINITION. The commands of the input trunks (chapters 5 to 8): pattern search, boundaries, loss and return of signal,
and the delivery of a frame to the store, the timing unit and the receive assembler.
-/

namespace Sys2Proof.Machine

namespace Receiver

/-- The frame that completes has its pattern: it was present at the boundary examined, and stands in the header (R90,
R95). -/
def patternPresent (miss : Nat) (f : WireFrame) : Bool := miss == 0 && headerPattern f.header == alignmentPattern

/-- A frame is trusted when its pattern was present and its check passes (R95). -/
def trusts (miss : Nat) (f : WireFrame) : Bool := patternPresent miss f && checkPasses f

/-- The sequence breaks: a remembered count is present and the received count is not the next (R96). -/
def sequenceBreaks (rem : Option (BitVec 4)) (count : BitVec 4) : Bool :=
  match rem with
  | some k => count != k + 1
  | none => false

/-- The receiver after a trusted frame: sequence comparison, last FET, far end in fallback (R96 to R98). -/
def afterTrusted (r : Receiver) (c miss : Nat) (rem : Option (BitVec 4)) (f : WireFrame) : Receiver :=
  let count := headerCount f.header
  { r with
    align := .locked c miss (some count)
    lastFet := headerFet f.header
    farInFallback := headerFb f.header
    counters := if sequenceBreaks rem count then r.counters.addSequenceGap else r.counters }

/-- The receiver after an untrusted frame: its header is not used, and a remembered count runs on (R95). -/
def afterUntrusted (r : Receiver) (c miss : Nat) (rem : Option (BitVec 4)) : Receiver :=
  { r with align := .locked c miss (rem.map (· + 1)) }

/-- The receiver takes the bits of the frame after its 12 pattern bits, which the boundary has brought. -/
def takeFrame (r : Receiver) (f : WireFrame) : Receiver := (r.take ((frameBits f).drop 12)).trim

/-- The receiver after the frame, its check-error counter included (R94). -/
def afterFrame (r : Receiver) (c miss : Nat) (rem : Option (BitVec 4)) (f : WireFrame) : Receiver :=
  let r1 := r.takeFrame f
  let r2 := if checkPasses f then r1 else { r1 with counters := r1.counters.addCheckError }
  if trusts miss f then r2.afterTrusted c miss rem f else r2.afterUntrusted c miss rem

end Receiver

namespace State

/-- The unit's time passes. -/
def passTime (s : State) (elapsed : Nat) : State :=
  s.withTiming { s.timing with now := s.timing.now + elapsed }

/-- The occurrences of a delivery at the receiver: CHECK_ERROR for a failed check (R94), FAR_END_TROUBLE for a rise of
FET in a trusted frame (R97). -/
def deliveryEvents (r : Receiver) (t : Trunk) (miss : Nat) (f : WireFrame) : List (Event × Half) :=
  (if checkPasses f then [] else [(.checkError, trunkDetail t)])
  ++ (if Receiver.trusts miss f && headerFet f.header && !r.lastFet then [(.farEndTrouble, trunkDetail t)] else [])

/-- The delivered frame record goes to the timing unit, on the management trunk its slot-31 word to the receive
assembler, and to the store (R93, R131). The timing unit counts it first, and takes it in a hand-over after the word: a
request that the word ends may evaluate the selection, and the hand-over begins with the delivery at which that took place
(R127). The store comes last: a drop slip is taken after a RESTART that the word ends, so that the event records it leaves
behind hold it (R115). -/
def handOnFrame (s : State) (t : Trunk) (fr : FrameRecord) : State :=
  let s1 := s.countDelivery t
  let s2 := if t = s.mgmtTrunk then s1.takeWord (fr.get 31) else s1
  (s2.followDelivery t).storeDelivery t fr

/-- A frame completes on a trunk: delivered if the receiver is LOCKED, else neither counted nor checked (R93). -/
def deliverFrame (s : State) (t : Trunk) (f : WireFrame) (elapsed : Nat) : State :=
  let r := s.receiver t
  match r.align with
  | .locked c miss rem =>
      let s1 := (s.passTime elapsed).setReceiver t (r.afterFrame c miss rem f)
      (s1.raiseAll (deliveryEvents r t miss f)).handOnFrame t (frameRecord f (Receiver.trusts miss f))
  | _ => s

end State

/-- PATTERN_FOUND (R88). -/
def execPatternFound (t : Trunk) (line : List Bool) (s : State) : Host.Outcome State Fault Refusal :=
  .next (if s.resetHeld then s else s.receiverSearches t line)

/-- VERIFY_BOUNDARY (R89). -/
def execVerifyBoundary (t : Trunk) (line : List Bool) (s : State) : Host.Outcome State Fault Refusal :=
  .next (if s.resetHeld then s else s.receiverVerifies t line)

/-- LOCKED_BOUNDARY (R90). -/
def execLockedBoundary (t : Trunk) (window : BitVec 12) (s : State) : Host.Outcome State Fault Refusal :=
  .next (if s.resetHeld then s else s.receiverAtBoundary t window)

/-- SIGNAL_LOSS (R91). -/
def execSignalLoss (t : Trunk) (s : State) : Host.Outcome State Fault Refusal :=
  .next (if s.resetHeld then s else s.receiverSignalLoss t)

/-- SIGNAL_RETURN (R91). -/
def execSignalReturn (t : Trunk) (s : State) : Host.Outcome State Fault Refusal :=
  .next (if s.resetHeld then s else s.receiverSignalReturn t)

/-- FRAME_DELIVERY (R93). -/
def execFrameDelivery (t : Trunk) (f : WireFrame) (elapsed : Nat) (s : State) : Host.Outcome State Fault Refusal :=
  .next (if s.resetHeld then s else s.deliverFrame t f elapsed)

end Sys2Proof.Machine
end

