-- ==== Sys2Proof/Machine/Resets.lean ====
section
/-!
DEFINITION. Power-up, RESET_N and its release (R24, R25, R44, R62, R83, R102, R114, R130, R155, R168, R169, R181,
R187).
-/

namespace Sys2Proof.Machine

namespace State

/-- The part after power-up: every block at its power-up values, held in reset if RESET_N is low (R187). The queue of
waiting commands is not the part's. -/
def poweredUp (s : State) (pins : Straps) (resetLow : Bool) : State :=
  { State.powerUp pins 0 with pending := s.pending, resetHeld := resetLow }

/-- RESET_N is held low: the part is held in reset and its output lines hold without transitions; ALERT_N is released
with it (R44, R180, R187). -/
def heldInReset (s : State) : State :=
  { s with resetHeld := true, exchange := { s.exchange with output := none } }

/-- The map at the release of RESET_N: the power-up values, but a frozen F keeps its entries, its edit count and its
flag (R25). -/
def releasedMap (m : ConnectionMap) : ConnectionMap :=
  if m.frozen then { ConnectionMap.powerUp with bankF := m.bankF, frozen := true } else .powerUp

/-- Supervision at the release of RESET_N: as at power-up, but LAPSED with cause RESET if F is frozen (R169). -/
def releasedSupervision (frozen supv : Bool) : Supervision :=
  if frozen then { Supervision.powerUp supv with state := .lapsed .reset } else .powerUp supv

/-- The part after the release of RESET_N (R187): the straps sampled afresh, the reset-line values in every block. -/
def released (s : State) (pins : Straps) : State :=
  { State.powerUp pins s.timing.now with
    pending := s.pending
    map := releasedMap s.map
    supervision := releasedSupervision s.map.frozen pins.supv }

end State

/-- POWER_UP (R187). -/
def execPowerUp (pins : Straps) (resetLow : Bool) (s : State) : Host.Outcome State Fault Refusal :=
  .next (s.poweredUp pins resetLow)

/-- RESET_N_LOW (R187): a low level held for less than one reference clock period causes no reset. -/
def execResetNLow (clocks : Nat) (s : State) : Host.Outcome State Fault Refusal :=
  .next (if clocks = 0 then s else s.heldInReset)

/-- RESET_N_RELEASE (R25, R187): RESET_N that is not held low has nothing to release. -/
def execResetNRelease (pins : Straps) (s : State) : Host.Outcome State Fault Refusal :=
  .next (if s.resetHeld then s.released pins else s)

end Sys2Proof.Machine
end

