-- ==== Sys2Proof/Machine/Arrivals.lean ====
section
/-!
DEFINITION. The request commands: a whole valid message with the request's code arrives at the part (R136 step 4,
R138 to R142). Each is one line over the shared arrival; what the request does stands in Machine/Requests.lean.
-/

namespace Sys2Proof.Machine

/-- The request a command stands for. -/
def requestOf (h : ReqHeader) (code : Byte) (p : List Byte) : Request := ⟨h.unit, h.seq, code, p, h.check⟩

namespace State

/-- A request arrives: none is taken while RESET_N is low (R187); else it meets the address test and admission (R136,
R138), and is executed at once when the processor is IDLE (R141). -/
def arrives (s : State) (r : Request) : State := if s.resetHeld then s else s.receiveRequest r

end State

/-- UNKNOWN_CODE_REQUEST (R142). -/
def execUnknownCodeRequest (h : ReqHeader) (code : Byte) (p : List Byte) (s : State) :
    Host.Outcome State Fault Refusal :=
  .next (s.arrives (requestOf h code p))

/-- IDENTIFY (R152). -/
def execIdentify (h : ReqHeader) (p : List Byte) (s : State) : Host.Outcome State Fault Refusal :=
  .next (s.arrives (requestOf h ReqKind.identify.code p))

/-- READ_STATUS (R153). -/
def execReadStatus (h : ReqHeader) (p : List Byte) (s : State) : Host.Outcome State Fault Refusal :=
  .next (s.arrives (requestOf h ReqKind.readStatus.code p))

/-- RESTART (R154). -/
def execRestart (h : ReqHeader) (p : List Byte) (s : State) : Host.Outcome State Fault Refusal :=
  .next (s.arrives (requestOf h ReqKind.restart.code p))

/-- WRITE_ENTRY (R10 to R17). -/
def execWriteEntry (h : ReqHeader) (p : List Byte) (s : State) : Host.Outcome State Fault Refusal :=
  .next (s.arrives (requestOf h ReqKind.writeEntry.code p))

/-- READ_ENTRY (R19, R20). -/
def execReadEntry (h : ReqHeader) (p : List Byte) (s : State) : Host.Outcome State Fault Refusal :=
  .next (s.arrives (requestOf h ReqKind.readEntry.code p))

/-- CLEAR_BANK (R21). -/
def execClearBank (h : ReqHeader) (p : List Byte) (s : State) : Host.Outcome State Fault Refusal :=
  .next (s.arrives (requestOf h ReqKind.clearBank.code p))

/-- SWITCH (R66, R67). -/
def execSwitch (h : ReqHeader) (p : List Byte) (s : State) : Host.Outcome State Fault Refusal :=
  .next (s.arrives (requestOf h ReqKind.switch.code p))

/-- CANCEL (R78, R79). -/
def execCancel (h : ReqHeader) (p : List Byte) (s : State) : Host.Outcome State Fault Refusal :=
  .next (s.arrives (requestOf h ReqKind.cancel.code p))

/-- COPY (R73, R74). -/
def execCopy (h : ReqHeader) (p : List Byte) (s : State) : Host.Outcome State Fault Refusal :=
  .next (s.arrives (requestOf h ReqKind.copy.code p))

/-- READ_PROTECTION (R59). -/
def execReadProtection (h : ReqHeader) (p : List Byte) (s : State) : Host.Outcome State Fault Refusal :=
  .next (s.arrives (requestOf h ReqKind.readProtection.code p))

/-- PROTECTION_COMMAND (R56 to R58). -/
def execProtectionCommand (h : ReqHeader) (p : List Byte) (s : State) : Host.Outcome State Fault Refusal :=
  .next (s.arrives (requestOf h ReqKind.protectionCommand.code p))

/-- SET_TRUNK (R101). -/
def execSetTrunk (h : ReqHeader) (p : List Byte) (s : State) : Host.Outcome State Fault Refusal :=
  .next (s.arrives (requestOf h ReqKind.setTrunk.code p))

/-- READ_COUNTERS (R100). -/
def execReadCounters (h : ReqHeader) (p : List Byte) (s : State) : Host.Outcome State Fault Refusal :=
  .next (s.arrives (requestOf h ReqKind.readCounters.code p))

/-- SET_REFERENCE (R121, R122). -/
def execSetReference (h : ReqHeader) (p : List Byte) (s : State) : Host.Outcome State Fault Refusal :=
  .next (s.arrives (requestOf h ReqKind.setReference.code p))

/-- KEEP (R158 to R160). -/
def execKeep (h : ReqHeader) (p : List Byte) (s : State) : Host.Outcome State Fault Refusal :=
  .next (s.arrives (requestOf h ReqKind.keep.code p))

/-- SET_SUPERVISION (R165). -/
def execSetSupervision (h : ReqHeader) (p : List Byte) (s : State) : Host.Outcome State Fault Refusal :=
  .next (s.arrives (requestOf h ReqKind.setSupervision.code p))

/-- FALLBACK (R164). -/
def execFallback (h : ReqHeader) (p : List Byte) (s : State) : Host.Outcome State Fault Refusal :=
  .next (s.arrives (requestOf h ReqKind.fallback.code p))

/-- RESUME (R71). -/
def execResume (h : ReqHeader) (p : List Byte) (s : State) : Host.Outcome State Fault Refusal :=
  .next (s.arrives (requestOf h ReqKind.resume.code p))

/-- FREEZE_FALLBACK (R6, R167). -/
def execFreezeFallback (h : ReqHeader) (p : List Byte) (s : State) : Host.Outcome State Fault Refusal :=
  .next (s.arrives (requestOf h ReqKind.freezeFallback.code p))

/-- READ_EVENTS (R179). -/
def execReadEvents (h : ReqHeader) (p : List Byte) (s : State) : Host.Outcome State Fault Refusal :=
  .next (s.arrives (requestOf h ReqKind.readEvents.code p))

/-- ACK_EVENTS (R178). -/
def execAckEvents (h : ReqHeader) (p : List Byte) (s : State) : Host.Outcome State Fault Refusal :=
  .next (s.arrives (requestOf h ReqKind.ackEvents.code p))

/-- SET_EVENTS (R176). -/
def execSetEvents (h : ReqHeader) (p : List Byte) (s : State) : Host.Outcome State Fault Refusal :=
  .next (s.arrives (requestOf h ReqKind.setEvents.code p))

end Sys2Proof.Machine
end

