-- ==== Sys2Proof/Machine/Dispatch.lean ====
section
/-!
DEFINITION. exec: one arm per command, in the order of spec/opcode_table.json.
-/

namespace Sys2Proof.Machine

def exec (i : Instr) (s : State) : Host.Outcome State Fault Refusal :=
  match i with
  | .powerUp pins resetLow => Sys2Proof.Machine.execPowerUp pins resetLow s
  | .resetNLow clocks => Sys2Proof.Machine.execResetNLow clocks s
  | .resetNRelease pins => Sys2Proof.Machine.execResetNRelease pins s
  | .outputFrameStart => Sys2Proof.Machine.execOutputFrameStart s
  | .switchActivation => Sys2Proof.Machine.execSwitchActivation s
  | .resumeActivation => Sys2Proof.Machine.execResumeActivation s
  | .supervisionExpiry => Sys2Proof.Machine.execSupervisionExpiry s
  | .holdoverExpiry => Sys2Proof.Machine.execHoldoverExpiry s
  | .renotify => Sys2Proof.Machine.execRenotify s
  | .copyStep => Sys2Proof.Machine.execCopyStep s
  | .patternFound t line => Sys2Proof.Machine.execPatternFound t line s
  | .verifyBoundary t line => Sys2Proof.Machine.execVerifyBoundary t line s
  | .lockedBoundary t window => Sys2Proof.Machine.execLockedBoundary t window s
  | .signalLoss t => Sys2Proof.Machine.execSignalLoss t s
  | .frameDelivery t frame elapsed => Sys2Proof.Machine.execFrameDelivery t frame elapsed s
  | .heldResponsePlaced => Sys2Proof.Machine.execHeldResponsePlaced s
  | .noticeOffer => Sys2Proof.Machine.execNoticeOffer s
  | .unknownCodeRequest h code p => Sys2Proof.Machine.execUnknownCodeRequest h code p s
  | .identify h p => Sys2Proof.Machine.execIdentify h p s
  | .readStatus h p => Sys2Proof.Machine.execReadStatus h p s
  | .restart h p => Sys2Proof.Machine.execRestart h p s
  | .writeEntry h p => Sys2Proof.Machine.execWriteEntry h p s
  | .readEntry h p => Sys2Proof.Machine.execReadEntry h p s
  | .clearBank h p => Sys2Proof.Machine.execClearBank h p s
  | .switch h p => Sys2Proof.Machine.execSwitch h p s
  | .cancel h p => Sys2Proof.Machine.execCancel h p s
  | .copy h p => Sys2Proof.Machine.execCopy h p s
  | .readProtection h p => Sys2Proof.Machine.execReadProtection h p s
  | .protectionCommand h p => Sys2Proof.Machine.execProtectionCommand h p s
  | .setTrunk h p => Sys2Proof.Machine.execSetTrunk h p s
  | .readCounters h p => Sys2Proof.Machine.execReadCounters h p s
  | .setReference h p => Sys2Proof.Machine.execSetReference h p s
  | .keep h p => Sys2Proof.Machine.execKeep h p s
  | .setSupervision h p => Sys2Proof.Machine.execSetSupervision h p s
  | .fallback h p => Sys2Proof.Machine.execFallback h p s
  | .resume h p => Sys2Proof.Machine.execResume h p s
  | .freezeFallback h p => Sys2Proof.Machine.execFreezeFallback h p s
  | .readEvents h p => Sys2Proof.Machine.execReadEvents h p s
  | .ackEvents h p => Sys2Proof.Machine.execAckEvents h p s
  | .setEvents h p => Sys2Proof.Machine.execSetEvents h p s
  | .signalReturn t => Sys2Proof.Machine.execSignalReturn t s

end Sys2Proof.Machine
end

