-- ==== Sys2Proof/WellFormed.lean ====
section
/-!
DEFINITION. When a command is one that can reach the part: a request's payload fits a message (R132), an unknown code
is unknown (R142), and a VERIFY_BOUNDARY brings no more of the line than the next boundary (R89). exec has a meaning for the others as well.
-/

namespace Sys2Proof

/-- The most payload octets a message carries (R132). -/
def maxPayload : Nat := 56

/-- A request's payload fits a message (R132). -/
def payloadFits (payload : List Byte) : Bool := decide (payload.length ≤ maxPayload)

/-- The payload octets of a request command, none for the other commands. -/
def Instr.payload? : Instr → Option (List Byte)
  | .powerUp _ _ => none
  | .resetNLow _ => none
  | .resetNRelease _ => none
  | .outputFrameStart => none
  | .switchActivation => none
  | .resumeActivation => none
  | .supervisionExpiry => none
  | .holdoverExpiry => none
  | .renotify => none
  | .copyStep => none
  | .patternFound _ _ => none
  | .verifyBoundary _ _ => none
  | .lockedBoundary _ _ => none
  | .signalLoss _ => none
  | .frameDelivery _ _ _ => none
  | .heldResponsePlaced => none
  | .noticeOffer => none
  | .unknownCodeRequest _ _ p => some p
  | .identify _ p => some p
  | .readStatus _ p => some p
  | .restart _ p => some p
  | .writeEntry _ p => some p
  | .readEntry _ p => some p
  | .clearBank _ p => some p
  | .switch _ p => some p
  | .cancel _ p => some p
  | .copy _ p => some p
  | .readProtection _ p => some p
  | .protectionCommand _ p => some p
  | .setTrunk _ p => some p
  | .readCounters _ p => some p
  | .setReference _ p => some p
  | .keep _ p => some p
  | .setSupervision _ p => some p
  | .fallback _ p => some p
  | .resume _ p => some p
  | .freezeFallback _ p => some p
  | .readEvents _ p => some p
  | .ackEvents _ p => some p
  | .setEvents _ p => some p
  | .signalReturn _ => none

/-- The code of a request command (R184), none for the other commands. -/
def Instr.code? : Instr → Option Byte
  | .powerUp _ _ => none
  | .resetNLow _ => none
  | .resetNRelease _ => none
  | .outputFrameStart => none
  | .switchActivation => none
  | .resumeActivation => none
  | .supervisionExpiry => none
  | .holdoverExpiry => none
  | .renotify => none
  | .copyStep => none
  | .patternFound _ _ => none
  | .verifyBoundary _ _ => none
  | .lockedBoundary _ _ => none
  | .signalLoss _ => none
  | .frameDelivery _ _ _ => none
  | .heldResponsePlaced => none
  | .noticeOffer => none
  | .unknownCodeRequest _ c _ => some c
  | .identify _ _ => some ReqKind.identify.code
  | .readStatus _ _ => some ReqKind.readStatus.code
  | .restart _ _ => some ReqKind.restart.code
  | .writeEntry _ _ => some ReqKind.writeEntry.code
  | .readEntry _ _ => some ReqKind.readEntry.code
  | .clearBank _ _ => some ReqKind.clearBank.code
  | .switch _ _ => some ReqKind.switch.code
  | .cancel _ _ => some ReqKind.cancel.code
  | .copy _ _ => some ReqKind.copy.code
  | .readProtection _ _ => some ReqKind.readProtection.code
  | .protectionCommand _ _ => some ReqKind.protectionCommand.code
  | .setTrunk _ _ => some ReqKind.setTrunk.code
  | .readCounters _ _ => some ReqKind.readCounters.code
  | .setReference _ _ => some ReqKind.setReference.code
  | .keep _ _ => some ReqKind.keep.code
  | .setSupervision _ _ => some ReqKind.setSupervision.code
  | .fallback _ _ => some ReqKind.fallback.code
  | .resume _ _ => some ReqKind.resume.code
  | .freezeFallback _ _ => some ReqKind.freezeFallback.code
  | .readEvents _ _ => some ReqKind.readEvents.code
  | .ackEvents _ _ => some ReqKind.ackEvents.code
  | .setEvents _ _ => some ReqKind.setEvents.code
  | .signalReturn _ => none

/-- A VERIFY_BOUNDARY brings the line up to the next expected boundary, which lies 612 bits after the previous one
(R89); it may bring no bit, where the receiver holds the boundary already. -/
def Instr.lineReachesBoundary : Instr → Bool
  | .verifyBoundary _ line => decide (line.length ≤ 612)
  | _ => true

/-- An UNKNOWN_CODE_REQUEST carries a code that names no request (R142). -/
def Instr.codeUnknown : Instr → Bool
  | .unknownCodeRequest _ code _ => (ReqKind.ofCode code).isNone
  | _ => true

/-- A command that can reach the part. -/
def Instr.wf (i : Instr) : Bool :=
  (match i.payload? with
    | some p => payloadFits p
    | none => true)
  && i.codeUnknown && i.lineReachesBoundary

end Sys2Proof
end

