-- ==== Sys2Proof/Safety.lean ====
section
/-!
DEFINITION. What a sound state of the part is: the conditions between its items that the chapters state as laws, and
the state in which a request is executed as it arrives. Each is stated about one state; the obligations say that every
step keeps them.
-/

namespace Sys2Proof

/-- The command by which a request of a kind arrives. -/
def ReqKind.command : ReqKind → ReqHeader → List Byte → Instr
  | .identify, h, p => .identify h p
  | .readStatus, h, p => .readStatus h p
  | .restart, h, p => .restart h p
  | .writeEntry, h, p => .writeEntry h p
  | .readEntry, h, p => .readEntry h p
  | .clearBank, h, p => .clearBank h p
  | .switch, h, p => .switch h p
  | .cancel, h, p => .cancel h p
  | .copy, h, p => .copy h p
  | .readProtection, h, p => .readProtection h p
  | .protectionCommand, h, p => .protectionCommand h p
  | .setTrunk, h, p => .setTrunk h p
  | .readCounters, h, p => .readCounters h p
  | .setReference, h, p => .setReference h p
  | .keep, h, p => .keep h p
  | .setSupervision, h, p => .setSupervision h p
  | .fallback, h, p => .fallback h p
  | .resume, h, p => .resume h p
  | .freezeFallback, h, p => .freezeFallback h p
  | .readEvents, h, p => .readEvents h p
  | .ackEvents, h, p => .ackEvents h p
  | .setEvents, h, p => .setEvents h p

end Sys2Proof

namespace Sys2Proof.Machine

/-! ### Requests at an idle processor -/

/-- A request with this header is executed as it arrives: the part is out of reset, the address is the part's own or 15,
the processor is IDLE with no request waiting, and the response cache does not know the request (R136 to R142). -/
structure State.Ready (s : State) (h : ReqHeader) : Prop where
  released : s.resetHeld = false
  addressed : s.addressed h.unit = true
  processorIdle : s.channel.held = none
  queueEmpty : s.channel.requests = []
  notCached : ∀ e ∈ s.channel.cache, (e.seq, e.check) ≠ (h.seq, h.check)

/-- The words in which a request reaches the part (R132, R184), its status octet and, where its octets are odd in
number, its pad octet as the sender chose them; the receiver reads neither. -/
def requestWords (r : Request) (status pad : Byte) : List Half :=
  let o := ((0#4) ++ r.unit : Byte) :: r.seq :: r.code :: status :: BitVec.ofNat 8 r.payload.length
    :: (r.payload ++ octets r.check)
  packWords (if o.length % 2 = 1 then o ++ [pad] else o)

/-- The check a sender computes for a request (R132). -/
def requestCheck (unit : BitVec 4) (seq code status : Byte) (payload : List Byte) : Half :=
  crcOctets
    (((0#4) ++ unit : Byte) :: seq :: code :: status :: BitVec.ofNat 8 payload.length :: payload)

/-! ### The map and the protection records (R7, R11, R12, R45) -/

/-- An entry record that a WRITE_ENTRY can store: the ranges of R7 and the structure of R12. -/
def Entry.wellFormed : Entry → Bool
  | .off => true
  | .route _ none => true
  | .route t (some a) =>
      decide (1 ≤ a.holdOff) && decide (a.holdOff ≤ 15) && decide (a.waitToRestore ≤ 255)
        && decide (a.term.input ≠ t.input)
  | .mix ts => decide (2 ≤ ts.length) && decide (ts.length ≤ 4) && distinctInputs ts
  | .fixed _ _ => true

/-- Every entry of a table is well formed. -/
def entriesSound (es : Table 128 Entry) : Prop := ∀ i, (es.get i).wellFormed = true

/-- A protection record within R45: its count by its state, and 0 under a command. -/
def ProtRecord.sound (r : ProtRecord) : Prop :=
  (match r.state with
    | .primary => r.count = 0
    | .failing => r.count ≤ 15
    | .alternate => r.count = 0
    | .restoring => r.count ≤ 254)
  ∧ (r.command = .lockPrimary → r.state = .primary)
  ∧ (r.command = .forceAlternate → r.state = .alternate)

/-- The banks and the frame's entry set hold well-formed entries, and the protection records keep their ranges. -/
structure State.MapSound (s : State) : Prop where
  bank0 : entriesSound s.map.bank0.entries
  bank1 : entriesSound s.map.bank1.entries
  bankF : entriesSound s.map.bankF.entries
  latched : ∀ l, s.exchange.latched = some l → entriesSound l.entries
  protection : ∀ i, (s.protection.get i).sound

/-- The law of R46, with what carries it from start to start: a protection record off rest stands over a protected
route of the live bank; the frame's entry set is the live bank's while the frame bank is live (R14, R29), and a live bank
that is not the frame bank is F, after a FALLBACK (R61); before the first start a current bank that is live is still as
the reset left it (R14, R24, R25). -/
structure State.ProtectionSound (s : State) : Prop where
  offRest : ∀ i, s.protection.get i ≠ .rest →
    i ≠ s.reserved ∧ ∃ t a, (s.bank s.liveBank).entries.get i = .route t (some a)
  frameLive : ∀ l, s.exchange.latched = some l → l.bank = s.liveBank → l.entries = (s.bank s.liveBank).entries
  frameBefore : ∀ l, s.exchange.latched = some l → l.bank ≠ s.liveBank → s.liveBank = .f
  firstFrame : s.exchange.latched = none → s.isLapsed = false → ∀ i, (s.bank s.currentBank).entries.get i = .off

/-! ### Supervision and the pending operation (R63, R71, R157) -/

/-- The supervision record within R157. -/
def Supervision.sound (v : Supervision) : Prop :=
  256 ≤ v.period.toNat
  ∧ (match v.state with
      | .off => v.enabled = false
      | .watching c => v.enabled = true ∧ 1 ≤ c ∧ c ≤ v.period.toNat
      | .lapsed _ => True)

/-- The pending operation fits the state it waits in: an expected edit count is the shadow's (R67), a RESUME waits in
LAPSED only (R71), and a copy's destination is another bank than its source, not live and not frozen (R14, R73). -/
def State.operationSound (s : State) : Prop :=
  match s.operation with
  | none => True
  | some (.switch _ _ expected) => ∀ x, expected = some x → (s.bank s.shadowBank).editCount = x
  | some (.resume _ _) => s.isLapsed = true
  | some (.copy _ src dst n) =>
      src ≠ dst ∧ dst ≠ s.liveBank ∧ s.frozenBank dst = false ∧ n ≤ 127

/-- Supervision and the bank controller fit each other. -/
structure State.ControlSound (s : State) : Prop where
  supervision : s.supervision.sound
  operation : s.operationSound

/-! ### Trunks and timing (R86, R103, R116, R120) -/

/-- The counters of a trunk within their range (R99). -/
def TrunkCounters.sound (c : TrunkCounters) : Prop :=
  c.checkErrors ≤ 65535 ∧ c.lockLosses ≤ 65535 ∧ c.sequenceGaps ≤ 65535 ∧ c.dropSlips ≤ 65535 ∧ c.repeatSlips ≤ 65535

/-- A store in LOCKED, with `d` frames delivered since the entry to LOCKED (R104, R106, R107, R113, R120). -/
def Store.lockedSound (v : Store) (d : Nat) : Prop :=
  v.queue.length ≤ 3 ∧ d ≤ 64 ∧
    (match v.phase with
      | .idle => False
      | .priming => v.queue.length = d ∧ d ≤ 1 ∧ v.current = none
      | .running => 2 ≤ d ∧ (v.current = none → 2 ≤ v.queue.length))

/-- One trunk: its receiver, its store and its delivered-frame count fit each other. -/
def trunkSound (r : Receiver) (v : Store) (d : Nat) : Prop :=
  r.counters.sound ∧ r.held.length ≤ heldLimit ∧ r.held.length ≤ r.received ∧
    (match r.align with
      | .disabled =>
          v = .idle ∧ d = 0 ∧ r.lastFet = false ∧ r.farInFallback = false ∧ r.signalPresent = true
      | .search => v = .idle ∧ d = 0 ∧ r.lastFet = false ∧ r.farInFallback = false
      | .verify _ n =>
          v = .idle ∧ d = 0 ∧ r.lastFet = false ∧ r.farInFallback = false ∧ r.signalPresent = true ∧ 1 ≤ n ∧ n ≤ 2
      | .locked _ miss _ => r.signalPresent = true ∧ miss ≤ 3 ∧ v.lockedSound d)

/-- The timing unit: the timer state is the one an evaluation of the list gives (R124, R129), the source of starts and
the hand-over follow it (R116, R126, R127), and the source has a start owed only if it is a trunk that goes on. -/
structure Timing.Sound (tm : Timing) : Prop where
  listDistinct : tm.refList.Nodup
  selected :
    match tm.state with
    | .tracking t => tm.selection = some t
    | .freeRun => tm.selection = none
    | .holdover _ c => tm.selection = none ∧ tm.refList ≠ [] ∧ 1 ≤ c ∧ c ≤ 8192
  sourceFollows :
    match tm.state with
    | .tracking t =>
        (tm.handOver = none ∧ tm.source = .trunk t)
        ∨ (∃ soon, tm.handOver = some ⟨t, soon⟩) ∧ tm.source ≠ .trunk t
    | _ => tm.handOver = none ∧ tm.source = .timer
  sourceQualified : ∀ t, tm.source = .trunk t → tm.qualified t = true
  owedByTrunk : tm.owed ≠ none → tm.source ≠ .timer ∧ tm.stopped = false
  startPast : tm.lastStart ≤ tm.now

/-- The four trunks and the timing unit fit each other; the management trunk is not disabled (R101). -/
structure State.TrunksSound (s : State) : Prop where
  trunks : ∀ t, trunkSound (s.receiver t) (s.store t) (s.timing.delivered.get t)
  managementEnabled : (s.receiver s.mgmtTrunk).align ≠ .disabled
  timing : s.timing.Sound

/-! ### The management channel (R133, R137, R141, R144, R146 to R148) -/

/-- The key of a held response's request (R138). -/
def HeldResponse.key (h : HeldResponse) : Byte × Half := (h.seq, h.check)

/-- The channel within its capacities. -/
structure Channel.Sound (c : Channel) : Prop where
  collected : ∀ words, c.assembler = .collect words → 1 ≤ words.length ∧ words.length ≤ 32
  counters :
    c.rx.badCheck ≤ 65535 ∧ c.rx.badLength ≤ 65535 ∧ c.rx.aborts ≤ 65535 ∧ c.rx.overlong ≤ 65535
      ∧ c.rx.badKind ≤ 65535
  queueFits : c.requests.length ≤ 4
  keysDistinct : (c.requests.map Request.key).Nodup
  heldApart : ∀ h, c.held = some h → h.key ∉ c.requests.map Request.key
  idleTakes : c.held = none → c.requests = []
  waitsForRoom : c.held ≠ none → 8 ≤ c.txQueue.length
  cacheFits : c.cache.length ≤ 4
  cacheDistinct : (c.cache.map CacheEntry.seq).Nodup
  transmitFits : c.txQueue.length ≤ 8
  noticesFit : noticesIn c.txQueue ≤ 4
  streakFits : c.streak ≤ 4
  sendingInside : ∀ it k attached, c.transmitter = .sending it k attached → 1 ≤ k ∧ k < it.message.words.length

/-! ### Events and notices (R171, R173, R174, R177) -/

/-- The item is a notice of an event. -/
def TxItem.isNoticeOf (e : Fin 16) : TxItem → Bool
  | .response _ => false
  | .notice e' _ => e' == e

/-- The notices of an event that its record has as its own: those waiting, and one in transmission that is not
detached. -/
def ownNotices (c : Channel) (e : Fin 16) : Nat :=
  (c.txQueue.filter (TxItem.isNoticeOf e)).length
  + (match c.transmitter with
      | .sending it _ attached => if attached && it.isNoticeOf e then 1 else 0
      | _ => 0)

/-- An event record under its mask bit, within the two conditions of R171. -/
def EventRecord.sound (r : EventRecord) (masked : Bool) : Prop :=
  (r.flag = false → r = .clear) ∧ (r.flag = true → 1 ≤ r.count) ∧ r.count ≤ 255
  ∧ (masked = true → r.notice = .none)

/-- The event unit and the transmit queue fit each other: a record is QUEUED exactly while it has one notice of its own
in the queue or in transmission. -/
structure State.EventsSound (s : State) : Prop where
  records : ∀ e, (s.record e).sound (!s.events.mask.getLsbD e.val)
  queued : ∀ e, ownNotices s.channel e = if (s.record e).notice = .queued then 1 else 0
  renotify :
    s.events.renotify ≤ 256 * s.events.interval.toNat ∧ (s.events.interval ≠ 0 → 1 ≤ s.events.renotify)

/-- What an event record holds beside its notice state: flag, count and detail. -/
def EventRecord.facts (r : EventRecord) : Bool × Nat × Half := (r.flag, r.count, r.detail)

/-- Flag, count and detail after occurrences with these details, in their order (R172): the flag set, the count raised
by one for each and held at 255, the last detail kept. -/
def EventRecord.after (r : EventRecord) (details : List Half) : Bool × Nat × Half :=
  details.foldl (fun x d => (true, if x.2.1 < 255 then x.2.1 + 1 else x.2.1, d)) r.facts

/-- The owed records of `s` have been offered to its transmit queue, and `u` is the state after (R173): those in `es`,
the lowest in number, found room, fewer than 8 messages and fewer than 4 notices (R146); each has become QUEUED and its
notice, built then, stands at the queue's tail under the next sequence number; an owed record that is left found none. -/
def State.offered (s u : State) (es : List (Fin 16)) : Prop :=
  es.Pairwise (· < ·) ∧
  (∀ e, e ∈ es → (s.record e).notice = .owed ∧ u.record e = { s.record e with notice := .queued }) ∧
  (∀ e, e ∉ es → u.record e = s.record e) ∧
  (∀ e, (s.record e).notice = .owed → e ∉ es →
    (∀ e' ∈ es, e' < e) ∧ (8 ≤ u.channel.txQueue.length ∨ 4 ≤ noticesIn u.channel.txQueue)) ∧
  (es ≠ [] → u.channel.txQueue.length ≤ 8 ∧ noticesIn u.channel.txQueue ≤ 4) ∧
  u.channel = { s.channel with
    txQueue := s.channel.txQueue ++ es.mapIdx fun k e =>
      .notice e ⟨.notice, s.straps.unit, s.events.noticeSeq + BitVec.ofNat 8 k, BitVec.ofNat 8 e.val, .ok,
        BitVec.ofNat 8 (s.record e).count :: (octets (s.record e).detail ++ octets s.events.flags)⟩ } ∧
  u.events = { s.events with
    records := u.events.records, noticeSeq := s.events.noticeSeq + BitVec.ofNat 8 es.length } ∧
  u = (s.withChannel u.channel).withEvents u.events

/-! ### The whole part -/

/-- A sound state: every law above. -/
structure State.Sound (s : State) : Prop where
  map : s.MapSound
  protection : s.ProtectionSound
  control : s.ControlSound
  trunks : s.TrunksSound
  channel : s.channel.Sound
  events : s.EventsSound

end Sys2Proof.Machine
end

