-- ==== Sys2Proof/Certificates/Slice0/Obligations.lean ====
section
/-!
DEFINITION. The statements for the provers. Where a statement says what a request does, it says so for a part that is
Ready for it (Safety.lean): the request is then executed as it arrives, and `complete` (the statement
ExecutionIsCachedAndAnswered) adds the cache entry and the response to the state the execution leaves.
-/

open Sys2Proof Sys2Proof.Machine

namespace Sys2Proof.Machine

/-- The outcome of a request command that is executed with a status and a payload and leaves the state `u` before its
response is handled. -/
abbrev answered (h : ReqHeader) (k : ReqKind) (p : List Byte) (st : Status) (payload : List Byte) (u : State) :
    Host.Outcome State Fault Refusal :=
  .next (State.complete (requestOf h k.code p) ⟨st, payload, u⟩)

/-- A refusal with an empty payload, which leaves the state as it was. -/
abbrev refused (h : ReqHeader) (k : ReqKind) (p : List Byte) (st : Status) (s : State) :
    Host.Outcome State Fault Refusal :=
  answered h k p st [] s

/-- A request of this key is in flight: it waits in the request queue or is held by the processor (R138). -/
def keyInFlight (s : State) (seq : Byte) (check : Half) : Prop :=
  (∃ q ∈ s.channel.requests, q.seq = seq ∧ q.check = check)
  ∨ (∃ x, s.channel.held = some x ∧ x.seq = seq ∧ x.check = check)

/-- The cache entry a retry of this key finds (R139). -/
def keyInCache (s : State) (seq : Byte) (check : Half) : Option CacheEntry :=
  s.channel.cache.find? fun e => e.seq == seq && e.check == check

/-- A message joins the tail of the transmit queue. -/
def queueResponse (s : State) (m : Message) : State :=
  s.withChannel { s.channel with txQueue := s.channel.txQueue ++ [.response m] }

/-- The part with the notices of the events in `which` withdrawn from the queue, one in transmission detached (R175),
and the event unit replaced. -/
def withdrawn (s : State) (which : Fin 16 → Bool) (e : EventUnit) : State :=
  (s.withChannel { s.channel with
    txQueue := s.channel.txQueue.filter fun it =>
      match it with
      | .response _ => true
      | .notice n _ => !which n
    transmitter :=
      match s.channel.transmitter with
      | .sending (.notice n m) k a => .sending (.notice n m) k (a && !which n)
      | other => other }).withEvents e

/-- The alignment pattern 0xD2B in line order (R183). -/
def alignmentBits : List Bool :=
  [true, true, false, true, false, false, true, false, true, false, true, true]

/-- The 12 bits received from position `pos` onward are the alignment pattern, `held` being the last of the `received`
bits (R88). -/
def patternStands (held : List Bool) (received pos : Nat) : Prop :=
  ∃ a b, held = a ++ alignmentBits ++ b ∧ pos + 12 + b.length = received

/-- The receiver after it has taken more bits, of which it holds the last 1236 (R89). -/
def taken (r : Receiver) (bits : List Bool) : Receiver :=
  { r with
    received := r.received + bits.length
    held := (r.held ++ bits).drop ((r.held ++ bits).length - 1236) }

/-- From `s` to `u` the events outside `free` have had the occurrences with the details `ds`, in that order, and no
others (R172). -/
def occurrences (s u : State) (free : List Event) (ds : Event → List Half) : Prop :=
  ∀ ev, ev ∉ free → (u.record ev.num).facts = (s.record ev.num).after (ds ev)

/-- From `s` to `u` the mask, the re-notify interval and the re-notify count are the same. -/
def settingsKept (s u : State) : Prop :=
  u.events.mask = s.events.mask ∧ u.events.interval = s.events.interval ∧ u.events.renotify = s.events.renotify

/-- From `s` to `u` the channel has gained notices at the tail of the transmit queue, and nothing else. -/
def queueGrew (s u : State) : Prop :=
  ∃ l, (∀ it ∈ l, it.isNotice = true) ∧ u.channel = { s.channel with txQueue := s.channel.txQueue ++ l }

/-- The command brings a request with this header, code and payload, known or unknown. -/
def bringsRequest (i : Instr) (h : ReqHeader) (code : Byte) (p : List Byte) : Prop :=
  (∃ k : ReqKind, i = k.command h p ∧ code = k.code) ∨ i = .unknownCodeRequest h code p

/-- The banks the pending operation holds (R16). -/
def bankHeld (s : State) (b : BankId) : Prop :=
  (∃ seq n x, s.operation = some (.switch seq n x) ∧ b = s.shadowBank)
  ∨ (∃ seq n, s.operation = some (.resume seq n) ∧ b = s.currentBank)
  ∨ (∃ seq src dst n, s.operation = some (.copy seq src dst n) ∧ (b = src ∨ b = dst))

/-! The octets of an encoded entry `e` (R11, R12, R185): mode, place of the first term, declared length, ranges, shape,
and the entry they stand for. -/

def modeIn (e : List Byte) : Nat := (byteAt e 0).toNat / 16

def termPlace (e : List Byte) (k : Nat) : Nat := (if modeIn e = 3 then 5 else 3) + 2 * k

def declaredLength (e : List Byte) : Nat :=
  termPlace e (byteAt e 1).toNat + (if byteAt e 2 = 1 then 4 else 0)

/-- The term at a place has its trunk and its shift in range. -/
def termInRange (e : List Byte) (i : Nat) : Prop := (byteAt e i).toNat / 32 ≤ 3 ∧ (byteAt e (i + 1)).toNat % 16 ≤ 7

/-- Every field is in range (R11). -/
def fieldsInRange (e : List Byte) : Prop :=
  let n := (byteAt e 1).toNat
  let a := termPlace e n
  modeIn e ≤ 3 ∧ n ≤ 4 ∧ (byteAt e 2).toNat ≤ 1 ∧ (∀ k < n, termInRange e (termPlace e k)) ∧
  (byteAt e 2 = 1 → termInRange e a ∧ 1 ≤ (byteAt e (a + 2)).toNat ∧ (byteAt e (a + 2)).toNat ≤ 15) ∧
  (modeIn e = 3 → (byteAt e 0).toNat % 4 ≤ 1)

/-- The structural rules hold (R12); two terms name one input slot when their first octets are equal. -/
def shapeHolds (e : List Byte) : Prop :=
  let n := (byteAt e 1).toNat
  (modeIn e = 0 → n = 0 ∧ byteAt e 2 = 0) ∧
  (modeIn e = 1 → n = 1 ∧ (byteAt e 2 = 1 → byteAt e 3 ≠ byteAt e 5)) ∧
  (modeIn e = 2 → 2 ≤ n ∧ n ≤ 4 ∧ byteAt e 2 = 0 ∧ ∀ j k, j < k → k < n → byteAt e (3 + 2 * j) ≠ byteAt e (3 + 2 * k)) ∧
  (modeIn e = 3 → n = 0 ∧ byteAt e 2 = 0)

/-- The octets at a place stand for the term (R185). -/
def standsForTerm (e : List Byte) (i : Nat) (t : Term) : Prop :=
  (byteAt e i).toNat = 32 * t.trunk.val + t.slot.val ∧
  (byteAt e (i + 1)).toNat / 128 = t.invert.toNat ∧ (byteAt e (i + 1)).toNat % 16 = t.shift.val

/-- The octets stand for the entry (R185). -/
def standsFor (e : List Byte) : Entry → Prop
  | .off => modeIn e = 0
  | .route t none => modeIn e = 1 ∧ byteAt e 2 = 0 ∧ standsForTerm e 3 t
  | .route t (some a) =>
      modeIn e = 1 ∧ byteAt e 2 = 1 ∧ standsForTerm e 3 t ∧ standsForTerm e 5 a.term ∧
        (byteAt e 7).toNat = a.holdOff ∧ (byteAt e 8).toNat = a.waitToRestore
  | .mix ts =>
      modeIn e = 2 ∧ (byteAt e 1).toNat = ts.length ∧ ∀ (k : Nat) (h : k < ts.length), standsForTerm e (3 + 2 * k) ts[k]
  | .fixed x q =>
      modeIn e = 3 ∧ halfAt e 3 = x ∧ (byteAt e 0).toNat % 4 = (match q with | .idle => 0 | .data => 1)

/-! The frame timing unit. -/

/-- The nominal frame period in periods of the reference clock, by the RATE straps (R85, R118; log entry 7). -/
def framePeriod (s : State) : Nat :=
  if s.straps.rate = 1 then 2448 else if s.straps.rate = 2 then 816 else 4896

/-- A first delivery too soon has stopped the source of starts (R127). -/
def sourceStopped (tm : Timing) : Prop := ∃ t, tm.handOver = some ⟨t, true⟩

/-- The source of starts has a start to make: it is not stopped, and a trunk has one owed (R118, R119, R127). -/
def sourceReady (tm : Timing) : Prop := ¬ sourceStopped tm ∧ ∀ t, tm.source = .trunk t → tm.owed ≠ none

/-- The detail of REFERENCE_CHANGE (R128, R186). -/
def referenceReport : TimerState → Half
  | .freeRun => 0
  | .tracking t => BitVec.ofNat 16 (256 + t.val)
  | .holdover t _ => BitVec.ofNat 16 (512 + t.val)

/-- Neither the timer state nor the tracked trunk changes (R128). -/
def sameReference : TimerState → TimerState → Prop
  | .freeRun, .freeRun => True
  | .tracking t, .tracking u => t = u
  | .holdover t _, .holdover u _ => t = u
  | _, _ => False

/-- The timing unit after trunk `t` has left LOCKED: its count is 0 (R120); a trunk that is the source gives way to the
timer (R126, R127; log entry 16); and the selection is evaluated if `t` is tracked in TRACKING (R123; the evaluation is
the one of SelectionIsEvaluated). -/
def timingAfterLoss (s : State) (t : Trunk) : Timing :=
  let counted : Timing := { s.timing with delivered := s.timing.delivered.set t 0 }
  let given : Timing :=
    if s.timing.source = .trunk t then { counted with source := .timer, owed := none } else counted
  if s.timing.state = .tracking t then (s.withTiming given).evaluateReference.timing else given

/-- The REFERENCE_CHANGE of that evaluation (R128). -/
def lossReports (s u : State) (t : Trunk) : List Half :=
  if s.timing.state = .tracking t then [referenceReport u.timing.state] else []

/-- From `s` to `u` the receiver of `t` has lost LOCKED by a fourth miss or by signal loss and stands at `r` but for what
leaving LOCKED clears and counts (R90 to R92): store, timing unit and, on the management trunk, the assembler have
followed. -/
def lostLock (s u : State) (t : Trunk) (r : Receiver) : Prop :=
  let aborts : Bool :=
    decide (t = s.mgmtTrunk) && (match s.channel.assembler with
      | .collect _ => true
      | _ => false)
  u.receiver t = { r with
    lastFet := false
    farInFallback := false
    counters := { r.counters with lockLosses := satInc 65535 r.counters.lockLosses } } ∧
  u.store t = ⟨.idle, [], none⟩ ∧ u.timing = timingAfterLoss s t ∧
  (∀ k, k ≠ t → u.receiver k = s.receiver k ∧ u.store k = s.store k) ∧
  (∃ l, (∀ it ∈ l, it.isNotice = true) ∧ u.channel = { s.channel with
    txQueue := s.channel.txQueue ++ l
    assembler := if t = s.mgmtTrunk then .gap else s.channel.assembler
    rx := if aborts then { s.channel.rx with aborts := satInc 65535 s.channel.rx.aborts } else s.channel.rx }) ∧
  occurrences s u [] (fun
    | .lockLost => [BitVec.ofNat 16 t.val]
    | .referenceChange => lossReports s u t
    | .mgmtError => if aborts then [3] else []
    | _ => []) ∧
  settingsKept s u ∧
  u.map = s.map ∧ u.exchange = s.exchange ∧ u.protection = s.protection ∧ u.operation = s.operation ∧
  u.supervision = s.supervision ∧ u.straps = s.straps ∧ u.resetHeld = s.resetHeld ∧ u.pending = s.pending

/-- What RESTART leaves before it is answered (R154, R181): transmit queue, request queue, cache, assembler, receive
counters and streak, every event record and the last keep phase are cleared, a notice in transmission is detached, and
every other item stays. -/
def clearedByRestart (s : State) : State :=
  ((s.withChannel { s.channel with
      assembler := .gap
      rx := ⟨0, 0, 0, 0, 0⟩
      requests := []
      cache := []
      txQueue := []
      streak := 0
      transmitter :=
        match s.channel.transmitter with
        | .sending (.notice e m) k _ => .sending (.notice e m) k false
        | other => other }).withEvents
    { s.events with records := Table.fill 16 ⟨false, 0, 0, .none⟩ }).withSupervision
    { s.supervision with lastPhase := none }

/-- The status codes (R151). -/
def statusNumber : Status → Nat
  | .ok => 0 | .accepted => 1 | .stale => 2
  | .badCode => 16 | .badLength => 17 | .badField => 18 | .badEntry => 19 | .reservedSlot => 20
  | .liveBank => 32 | .frozen => 33 | .bankBusy => 34 | .opBusy => 35 | .editMismatch => 36 | .tooLate => 37
  | .state => 38 | .notPermitted => 39
  | .full => 48

/-- The codes of the enumerations, each spelled as a number (R182). -/
def enumerationsAreCoded : Prop :=
  (∀ b : BankId, b.code.toNat = match b with | .bank0 => 0 | .bank1 => 1 | .f => 2) ∧
  (∀ q : Qual, q.code.toNat = match q with | .idle => 0 | .data => 1 | .fault => 2 | .fourth => 3) ∧
  (∀ a : Alignment, a.code.toNat =
    match a with | .disabled => 0 | .search => 1 | .verify _ _ => 2 | .locked _ _ _ => 3) ∧
  (∀ f : StorePhase, f.code.toNat = match f with | .idle => 0 | .priming => 1 | .running => 2) ∧
  (∀ m : TimerState, m.code.toNat = (match m with | .freeRun => 0 | .tracking _ => 1 | .holdover _ _ => 2) ∧
    (trunkOctet m.trunk?).toNat =
      match m with | .freeRun => 0xFF | .tracking t => t.val | .holdover t _ => t.val) ∧
  (∀ v : SupState, v.code.toNat = (match v with | .off => 0 | .watching _ => 1 | .lapsed _ => 2) ∧
    v.count = (match v with | .off => 0 | .watching c => c | .lapsed _ => 0) ∧
    v.causeCode.toNat =
      match v with
      | .off => 0
      | .watching _ => 0
      | .lapsed .expiry => 1
      | .lapsed .fallback => 2
      | .lapsed .reset => 3) ∧
  (∀ o : Option PendingOp, (pendingKind o).toNat =
    match o with | none => 0 | some (.switch _ _ _) => 1 | some (.resume _ _) => 2 | some (.copy _ _ _ _) => 3) ∧
  (∀ x : ProtState, x.code.toNat =
    match x with | .primary => 0 | .failing => 1 | .alternate => 2 | .restoring => 3) ∧
  (∀ c : ProtCommand, c.code.toNat = match c with | .none => 0 | .lockPrimary => 1 | .forceAlternate => 2) ∧
  (∀ b : Bool, (mark b).toNat = if b then 1 else 0)

/-- The codes of R182, of the requests (R184) and of the events (chapter 10), each spelled as a number. -/
def codesAreTheSpecs : Prop :=
  enumerationsAreCoded ∧
  (∀ k : ReqKind, k.code.toNat =
    match k with
    | .identify => 0x01 | .readStatus => 0x02 | .restart => 0x03
    | .writeEntry => 0x10 | .readEntry => 0x11 | .clearBank => 0x12
    | .switch => 0x18 | .cancel => 0x19 | .copy => 0x1A
    | .readProtection => 0x20 | .protectionCommand => 0x21
    | .setTrunk => 0x28 | .readCounters => 0x29 | .setReference => 0x2A
    | .keep => 0x30 | .setSupervision => 0x31 | .fallback => 0x32 | .resume => 0x33 | .freezeFallback => 0x34
    | .readEvents => 0x38 | .ackEvents => 0x39 | .setEvents => 0x3A) ∧
  (∀ e : Event, e.num.val =
    match e with
    | .lockLost => 0 | .lockGained => 1 | .slip => 2 | .checkError => 3 | .farEndTrouble => 4
    | .referenceChange => 5 | .protectionSwitch => 6 | .protectionRevert => 7 | .switchDone => 8 | .opCancelled => 9
    | .copyDone => 10 | .lapse => 11 | .mixClip => 12 | .mgmtError => 13 | .txOverflow => 14 | .staleKeep => 15)

/-- The repeat slips of an output frame start at `s`, counted and raised on `u` in ascending order of trunk: of every
store that runs without a record in its queue (R109, R112). -/
def withRepeatSlips (s u : State) : State :=
  ((List.finRange 4).filter fun t => (s.store t).phase == .running && (s.store t).queue == []).foldl
    (fun (x : State) t =>
      (x.setReceiver t { x.receiver t with
        counters := { (x.receiver t).counters with
          repeatSlips := satInc 65535 (x.receiver t).counters.repeatSlips } }).raise
        .slip (BitVec.ofNat 16 (256 + t.val))) u

end Sys2Proof.Machine

/-! ### The step -/

/-- A step takes the command at the front of the queue and carries it out on the state with the queue's rest. On an
empty queue the part idles: the model's choice, log entry 1. -/
def Obligations.StepRunsFrontCommand : Prop :=
  (∀ (c : Instr) (rest : List Instr) (s : State), s.pending = c :: rest → step s = exec c (s.withPending rest)) ∧
  (∀ s : State, s.pending = [] → step s = .next s)

/-- Every command answers a next state, and none touches the queue of waiting commands. -/
def Obligations.CommandsAnswerNextAndKeepQueue : Prop :=
  ∀ (i : Instr) (s : State), ∃ t, exec i s = .next t ∧ t.pending = s.pending

/-! ### Resets (R24, R25, R44, R62, R83, R102, R114, R130, R155, R168, R169, R181, R187) -/

/-- POWER_UP samples the straps and gives every block its power-up values, whatever stood before. The last start is
the moment of power-up, and no start is owed; that this moment is 0 is the model's choice, log entry 2. -/
def Obligations.PowerUpGivesPowerUpValues : Prop :=
  ∀ (pins : Straps) (low : Bool) (s : State), ∃ t, exec (.powerUp pins low) s = .next t ∧
    t.pending = s.pending ∧ t.resetHeld = low ∧ t.straps = pins ∧
    (∀ b i, (t.bank b).entries.get i = .off) ∧ (∀ b, (t.bank b).editCount = 0) ∧
    t.currentBank = .bank0 ∧ t.liveBank = .bank0 ∧ t.map.frozen = false ∧ t.operation = none ∧
    t.exchange = ⟨none, none⟩ ∧
    (∀ i, t.protection.get i = ⟨.primary, 0, .none⟩) ∧
    (∀ k, t.receiver k = ⟨.search, false, false, true, ⟨0, 0, 0, 0, 0⟩, 0, 0, []⟩) ∧
    (∀ k, t.store k = ⟨.idle, [], none⟩) ∧
    t.timing.state = .freeRun ∧ t.timing.refList = [] ∧ (∀ k, t.timing.delivered.get k = 0) ∧
    t.timing.source = .timer ∧ t.timing.handOver = none ∧ t.timing.counter = 65535 ∧
    t.timing.now = 0 ∧ t.timing.lastStart = 0 ∧ t.timing.owed = none ∧
    t.channel = ⟨.gap, ⟨0, 0, 0, 0, 0⟩, [], none, [], [], .idle, 0⟩ ∧
    t.supervision = ⟨if pins.supv then .watching 8192 else .off, pins.supv, 8192, none⟩ ∧
    (∀ e, t.record e = ⟨false, 0, 0, .none⟩) ∧ t.events.mask = 0xFFFF ∧ t.events.interval = 16 ∧
    t.events.renotify = 4096 ∧ t.events.noticeSeq = 0 ∧ t.alertLow = false

/-- RESET_N_LOW: a pulse shorter than a reference clock period causes no reset; a level of one period or longer holds
the part in reset, its output lines without transitions and ALERT_N released, and leaves every other item. A part held in
reset changes at no command but POWER_UP, RESET_N_LOW and RESET_N_RELEASE (R44, R187). The operand in whole clock
periods, with 0 the short pulse, and that every other item keeps its value while RESET_N is low, are the model's choice,
log entry 18. -/
def Obligations.ResetLowHoldsThePart : Prop :=
  (∀ (clocks : Nat) (s : State),
    (clocks = 0 → exec (.resetNLow clocks) s = .next s) ∧
    (1 ≤ clocks → ∃ t, exec (.resetNLow clocks) s = .next t ∧
      t = { s with resetHeld := true, exchange := { s.exchange with output := none } } ∧ t.alertLow = false)) ∧
  (∀ (i : Instr) (s : State), s.resetHeld = true →
    (∀ pins low, i ≠ .powerUp pins low) → (∀ clocks, i ≠ .resetNLow clocks) → (∀ pins, i ≠ .resetNRelease pins) →
    exec i s = .next s)

/-- RESET_N_RELEASE: the straps are sampled afresh and every block takes its reset-line values; a frozen F keeps its
entries, its edit count and its flag, and brings the part up LAPSED with cause RESET. -/
def Obligations.ResetReleaseGivesResetValues : Prop :=
  ∀ (pins : Straps) (s : State), s.resetHeld = true → ∃ t, exec (.resetNRelease pins) s = .next t ∧
    t.pending = s.pending ∧ t.resetHeld = false ∧ t.straps = pins ∧
    (∀ b, b ≠ .f → (∀ i, (t.bank b).entries.get i = .off) ∧ (t.bank b).editCount = 0) ∧
    t.currentBank = .bank0 ∧ t.operation = none ∧ t.exchange = ⟨none, none⟩ ∧
    (s.map.frozen = true → t.bank .f = s.bank .f ∧ t.map.frozen = true ∧ t.liveBank = .f ∧
      t.supervision = ⟨.lapsed .reset, pins.supv, 8192, none⟩) ∧
    (s.map.frozen = false → (∀ i, (t.bank .f).entries.get i = .off) ∧ (t.bank .f).editCount = 0 ∧
      t.map.frozen = false ∧ t.liveBank = .bank0 ∧
      t.supervision = ⟨if pins.supv then .watching 8192 else .off, pins.supv, 8192, none⟩) ∧
    (∀ i, t.protection.get i = ⟨.primary, 0, .none⟩) ∧
    (∀ k, t.receiver k = ⟨.search, false, false, true, ⟨0, 0, 0, 0, 0⟩, 0, 0, []⟩) ∧
    (∀ k, t.store k = ⟨.idle, [], none⟩) ∧
    t.timing.state = .freeRun ∧ t.timing.refList = [] ∧ (∀ k, t.timing.delivered.get k = 0) ∧
    t.timing.source = .timer ∧ t.timing.handOver = none ∧ t.timing.counter = 65535 ∧
    t.timing.now = s.timing.now ∧ t.timing.lastStart = s.timing.now ∧ t.timing.owed = none ∧
    t.channel = ⟨.gap, ⟨0, 0, 0, 0, 0⟩, [], none, [], [], .idle, 0⟩ ∧
    (∀ e, t.record e = ⟨false, 0, 0, .none⟩) ∧ t.events.mask = 0xFFFF ∧ t.events.interval = 16 ∧
    t.events.renotify = 4096 ∧ t.events.noticeSeq = 0 ∧ t.alertLow = false

/-! ### Admission and the end of an execution (R136, R138 to R145) -/

/-- The end of an execution (R143 to R145): the request enters the cache, and for a unicast request the response goes
to the tail of the transmit queue, or is held by the processor while the queue holds 8 messages. -/
def Obligations.ExecutionIsCachedAndAnswered : Prop :=
  ∀ (r : Request) (st : Status) (payload : List Byte) (u : State),
    let m : Message := ⟨.response, u.straps.unit, r.seq, r.code, st, payload⟩
    let t := State.complete r ⟨st, payload, u⟩
    (r.unit = 15 →
      t = u.withChannel { u.channel with cache := State.cached u.channel.cache ⟨r.seq, r.check, none⟩ }) ∧
    (r.unit ≠ 15 → u.channel.txQueue.length < 8 →
      t = u.withChannel { u.channel with
        cache := State.cached u.channel.cache ⟨r.seq, r.check, some m⟩
        txQueue := u.channel.txQueue ++ [.response m] }) ∧
    (r.unit ≠ 15 → 8 ≤ u.channel.txQueue.length →
      t = u.withChannel { u.channel with
        cache := State.cached u.channel.cache ⟨r.seq, r.check, some m⟩
        held := some ⟨r.seq, r.check, m⟩ })

/-- The response cache (R144): an entry with the same sequence number is replaced, else the oldest of four leaves; the
new entry is the newest; never more than four entries, never two with one sequence number. -/
def Obligations.CacheKeepsTheLatestFour : Prop :=
  ∀ (l : List CacheEntry) (e : CacheEntry),
    ((∃ x ∈ l, x.seq = e.seq) → State.cached l e = l.filter (fun x => x.seq != e.seq) ++ [e]) ∧
    ((∀ x ∈ l, x.seq ≠ e.seq) → l.length = 4 → State.cached l e = l.tail ++ [e]) ∧
    ((∀ x ∈ l, x.seq ≠ e.seq) → l.length < 4 → State.cached l e = l ++ [e]) ∧
    (l.length ≤ 4 → (l.map CacheEntry.seq).Nodup →
      (State.cached l e).length ≤ 4 ∧ ((State.cached l e).map CacheEntry.seq).Nodup)

/-- A refused request changes no state but the cache, and its response is empty but for EDIT_MISMATCH and a FALLBACK
refused with STATE (R142, R186). -/
def Obligations.RefusalChangesNothing : Prop :=
  ∀ (s : State) (r : Request), 16 ≤ (s.execute r).status.code.toNat →
    (s.execute r).state = s ∧
    ((s.execute r).payload = []
      ∨ (s.execute r).status = .editMismatch ∧ (s.execute r).payload = octets (s.bank s.shadowBank).editCount
      ∨ r.code = ReqKind.fallback.code ∧ (s.execute r).status = .state
          ∧ (s.execute r).payload = [s.supervision.state.causeCode])

/-- Admission's first tests (R136 step 4, R138, R139), of a request with any code, known or unknown: a request for another
part is ignored; a request in flight is dropped; a request in the cache is answered again from it without being executed,
or, for want of room, TX_OVERFLOW is raised with CACHED. -/
def Obligations.RepeatedRequestsAreNotExecuted : Prop :=
  ∀ (i : Instr) (h : ReqHeader) (code : Byte) (p : List Byte) (s : State), bringsRequest i h code p →
    s.resetHeld = false →
    (h.unit ≠ s.straps.unit → h.unit ≠ 15 → exec i s = .next s) ∧
    ((h.unit = s.straps.unit ∨ h.unit = 15) → keyInFlight s h.seq h.check → exec i s = .next s) ∧
    ((h.unit = s.straps.unit ∨ h.unit = 15) → ¬ keyInFlight s h.seq h.check →
      ∀ e, keyInCache s h.seq h.check = some e →
        (e.result = none → exec i s = .next s) ∧
        (∀ m, e.result = some m → s.channel.txQueue.length < 8 →
          exec i s = .next (queueResponse s m)) ∧
        (∀ m, e.result = some m → 8 ≤ s.channel.txQueue.length →
          exec i s = .next (s.raise .txOverflow (BitVec.ofNat 16 (256 + m.seq.toNat)))))

/-- Admission's last tests (R140, R141), of a request with any code, known or unknown: a request that meets four waiting
requests is answered FULL, or, for want of room, TX_OVERFLOW is raised with FULL, and a broadcast is lost; a request that
meets a waiting processor and a shorter queue joins its tail. -/
def Obligations.FullQueueRefusesAndWaitingQueues : Prop :=
  ∀ (i : Instr) (h : ReqHeader) (code : Byte) (p : List Byte) (s : State), bringsRequest i h code p →
    s.resetHeld = false →
    (h.unit = s.straps.unit ∨ h.unit = 15) → ¬ keyInFlight s h.seq h.check →
    keyInCache s h.seq h.check = none →
    (4 ≤ s.channel.requests.length → h.unit = 15 → exec i s = .next s) ∧
    (4 ≤ s.channel.requests.length → h.unit ≠ 15 → s.channel.txQueue.length < 8 →
      exec i s =
        .next (queueResponse s ⟨.response, s.straps.unit, h.seq, code, .full, []⟩)) ∧
    (4 ≤ s.channel.requests.length → h.unit ≠ 15 → 8 ≤ s.channel.txQueue.length →
      exec i s = .next (s.raise .txOverflow (BitVec.ofNat 16 h.seq.toNat))) ∧
    (s.channel.requests.length < 4 → s.channel.held ≠ none →
      exec i s =
        .next (s.withChannel { s.channel with requests := s.channel.requests ++ [requestOf h code p] }))

/-- A code that names no request is executed with BAD_CODE and changes nothing but the cache (R142, R184). -/
def Obligations.UnknownCodeIsAnsweredBadCode : Prop :=
  ∀ (s : State) (h : ReqHeader) (code : Byte) (p : List Byte), s.Ready h → (∀ k : ReqKind, k.code ≠ code) →
    exec (.unknownCodeRequest h code p) s = .next (State.complete (requestOf h code p) ⟨.badCode, [], s⟩)

/-! ### Requests of the channel (R152 to R154, R170, R186) -/

/-- IDENTIFY answers the family, part and revision codes, the unit address and the straps as sampled (R152, R186), and
changes no state; with a payload it is refused with BAD_LENGTH. That bits 2 to 0 of the straps, which the layout does not
name, are 0 is the model's choice, log entry 25. -/
def Obligations.IdentifyReportsTheStraps : Prop :=
  ∀ (s : State) (h : ReqHeader) (p : List Byte), s.Ready h →
    (p = [] → exec (.identify h p) s = answered h .identify p .ok
      [0x1C, 0x64, 0x12, 0x01, BitVec.ofNat 8 s.straps.unit.toNat,
        BitVec.ofNat 8 (64 * s.straps.mtrunk.val + 16 * s.straps.rate.toNat + 8 * s.straps.supv.toNat)] s) ∧
    (p ≠ [] → exec (.identify h p) s = refused h .identify p .badLength s)

/-- READ_STATUS answers 36 octets that give the state of every block as it stands (R64, R113, R153, R186), and changes
no state; with a payload it is refused with BAD_LENGTH. The codes that its octets and those of every other response and
notice use are the numbers of R182, R184 and the event table of chapter 10. That bit 1 of a trunk's octet, which the layout
does not name, is 0 is the model's choice, log entry 25. -/
def Obligations.ReadStatusReportsEveryBlock : Prop :=
  ∀ (s : State) (h : ReqHeader) (p : List Byte), s.Ready h →
    (p = [] → ∃ q, exec (.readStatus h p) s = answered h .readStatus p .ok q s ∧ q.length = 36 ∧
      (∀ t : Trunk, (byteAt q t.val).toNat =
        64 * (s.receiver t).align.code.toNat + 16 * (s.store t).phase.code.toNat
          + 4 * ((s.store t).queue.length % 4) + (s.receiver t).farInFallback.toNat) ∧
      (byteAt q 4).toNat = s.timing.state.code.toNat ∧ byteAt q 5 = trunkOctet s.timing.state.trunk? ∧
      halfAt q 6 = s.timing.counter ∧
      byteAt q 8 = s.liveBank.code ∧ byteAt q 9 = s.currentBank.code ∧
      halfAt q 10 = (s.bank .bank0).editCount ∧ halfAt q 12 = (s.bank .bank1).editCount ∧
      halfAt q 14 = (s.bank .f).editCount ∧ byteAt q 16 = mark s.map.frozen ∧
      byteAt q 17 = s.supervision.state.code ∧ halfAt q 18 = BitVec.ofNat 16 s.supervision.state.count ∧
      byteAt q 20 = pendingKind s.operation ∧ halfAt q 21 = pendingFrame s.operation ∧
      byteAt q 23 = BitVec.ofNat 8 (pendingProgress s.operation) ∧
      (∀ e : Fin 16, (halfAt q 24).getLsbD e.val = (s.record e).flag) ∧
      halfAt q 26 = BitVec.ofNat 16 s.channel.rx.badCheck ∧ halfAt q 28 = BitVec.ofNat 16 s.channel.rx.badLength ∧
      halfAt q 30 = BitVec.ofNat 16 s.channel.rx.aborts ∧ halfAt q 32 = BitVec.ofNat 16 s.channel.rx.overlong ∧
      halfAt q 34 = BitVec.ofNat 16 s.channel.rx.badKind) ∧
    (p ≠ [] → exec (.readStatus h p) s = refused h .readStatus p .badLength s) ∧ codesAreTheSpecs

/-- RESTART empties the queues, the cache and the assembler, clears the receive counters, every event record and the
last keep phase, detaches a notice in transmission, and leaves every other item (R154, R170, R181). -/
def Obligations.RestartClearsChannelAndEvents : Prop :=
  ∀ (s : State) (h : ReqHeader) (p : List Byte), s.Ready h →
    (p = [] → exec (.restart h p) s = answered h .restart p .ok [] (clearedByRestart s)) ∧
    (p ≠ [] → exec (.restart h p) s = refused h .restart p .badLength s)

/-! ### The connection map (R10 to R21) -/

/-- A WRITE_ENTRY of a well-formed entry that names no reserved slot, to a bank neither live nor frozen nor held,
replaces the entry, raises the bank's edit count by 1, wrapping, answers the new count, and changes nothing else
(R13 to R17, R185). -/
def Obligations.WriteEntryReplacesTheEntry : Prop :=
  ∀ (s : State) (h : ReqHeader) (b : BankId) (i : Fin 128) (e : Entry), s.Ready h →
    e.wellFormed = true → i ≠ s.reserved → (∀ t ∈ e.allTerms, t.input ≠ (s.mgmtTrunk, 31)) →
    b ≠ s.liveBank → (b = .f → s.map.frozen = false) → ¬ bankHeld s b →
    exec (.writeEntry h (b.code :: BitVec.ofNat 8 i.val :: e.octets)) s =
      answered h .writeEntry (b.code :: BitVec.ofNat 8 i.val :: e.octets) .ok
        (octets ((s.bank b).editCount + 1))
        (s.setBank b ⟨(s.bank b).entries.set i e, (s.bank b).editCount + 1⟩)

/-- The checks of WRITE_ENTRY in the order of R10, on the octets: length, fields, structure, reserved slot, live bank,
frozen bank, held bank (R11 to R16, R185). Each refusal changes nothing; an entry that passes is the one its octets stand
for, and replaces the entry with the bank's edit count raised by 1 (R17). -/
def Obligations.WriteEntryChecksInOrder : Prop :=
  (∀ (s : State) (h : ReqHeader) (p : List Byte), s.Ready h →
    let e := p.drop 2
    (p.length ≠ 2 + declaredLength e → exec (.writeEntry h p) s = refused h .writeEntry p .badLength s) ∧
    (p.length = 2 + declaredLength e →
      (2 < (byteAt p 0).toNat ∨ 127 < (byteAt p 1).toNat ∨ ¬ fieldsInRange e) →
      exec (.writeEntry h p) s = refused h .writeEntry p .badField s) ∧
    (∀ b (i : Fin 128), p.length = 2 + declaredLength e → byteAt p 0 = b.code → (byteAt p 1).toNat = i.val →
      fieldsInRange e →
      (¬ shapeHolds e → exec (.writeEntry h p) s = refused h .writeEntry p .badEntry s) ∧
      (∀ x : Entry, shapeHolds e → standsFor e x →
        ((i = s.reserved ∨ ∃ t ∈ x.allTerms, t.input = (s.mgmtTrunk, 31)) →
          exec (.writeEntry h p) s = refused h .writeEntry p .reservedSlot s) ∧
        ((i ≠ s.reserved ∧ ∀ t ∈ x.allTerms, t.input ≠ (s.mgmtTrunk, 31)) →
          (b = s.liveBank → exec (.writeEntry h p) s = refused h .writeEntry p .liveBank s) ∧
          (b ≠ s.liveBank → b = .f → s.map.frozen = true →
            exec (.writeEntry h p) s = refused h .writeEntry p .frozen s) ∧
          (b ≠ s.liveBank → (b = .f → s.map.frozen = false) → bankHeld s b →
            exec (.writeEntry h p) s = refused h .writeEntry p .bankBusy s) ∧
          (b ≠ s.liveBank → (b = .f → s.map.frozen = false) → ¬ bankHeld s b →
            exec (.writeEntry h p) s = answered h .writeEntry p .ok (octets ((s.bank b).editCount + 1))
              (s.setBank b ⟨(s.bank b).entries.set i x, (s.bank b).editCount + 1⟩)))))) ∧
  (∀ e : List Byte, fieldsInRange e → shapeHolds e → ∃ x : Entry, standsFor e x)

/-- READ_ENTRY answers the bank read, its edit count, the copy-in-progress mark and the entry, LIVE being the bank live
at the execution, and changes no state (R19, R20); its checks are length and range. -/
def Obligations.ReadEntryReturnsTheEntry : Prop :=
  ∀ (s : State) (h : ReqHeader) (p : List Byte), s.Ready h →
    (p.length ≠ 2 → exec (.readEntry h p) s = refused h .readEntry p .badLength s) ∧
    (p.length = 2 → (3 < (byteAt p 0).toNat ∨ 127 < (byteAt p 1).toNat) →
      exec (.readEntry h p) s = refused h .readEntry p .badField s) ∧
    (∀ b (i : Fin 128), p.length = 2 → (byteAt p 0 = b.code ∨ byteAt p 0 = 3 ∧ b = s.liveBank) →
      (byteAt p 1).toNat = i.val →
      exec (.readEntry h p) s = answered h .readEntry p .ok
        ([b.code] ++ octets (s.bank b).editCount
          ++ [match s.operation with
              | some (.copy _ _ dst _) => mark (b == dst)
              | _ => 0]
          ++ ((s.bank b).entries.get i).octets) s)

/-- An encoded entry reads back as the entry, and declares its own length (R11, R12, R185). -/
def Obligations.EntryEncodingReadsBack : Prop :=
  ∀ e : Entry, e.wellFormed = true →
    entryLength e.octets = e.octets.length ∧ entryFieldsOk e.octets = true ∧ entryShapeOk e.octets = true ∧
      entryOf e.octets = e ∧ 3 ≤ e.octets.length ∧ e.octets.length ≤ 11

/-- CLEAR_BANK sets every entry of the bank to OFF and raises its edit count by 1, unless the bank is live, frozen or
held; the checks in the order of R21. -/
def Obligations.ClearBankEmptiesTheBank : Prop :=
  ∀ (s : State) (h : ReqHeader) (p : List Byte), s.Ready h →
    (p.length ≠ 1 → exec (.clearBank h p) s = refused h .clearBank p .badLength s) ∧
    (p.length = 1 → 2 < (byteAt p 0).toNat → exec (.clearBank h p) s = refused h .clearBank p .badField s) ∧
    (∀ b : BankId, p = [b.code] →
      (b = s.liveBank → exec (.clearBank h p) s = refused h .clearBank p .liveBank s) ∧
      (b ≠ s.liveBank → b = .f → s.map.frozen = true →
        exec (.clearBank h p) s = refused h .clearBank p .frozen s) ∧
      (b ≠ s.liveBank → (b = .f → s.map.frozen = false) → bankHeld s b →
        exec (.clearBank h p) s = refused h .clearBank p .bankBusy s) ∧
      (b ≠ s.liveBank → (b = .f → s.map.frozen = false) → ¬ bankHeld s b →
        exec (.clearBank h p) s = answered h .clearBank p .ok (octets ((s.bank b).editCount + 1))
          (s.setBank b ⟨Table.fill 128 .off, (s.bank b).editCount + 1⟩)))

/-- No request and no copy step changes an entry of the bank that is live when it is executed (R14); for the copy step,
where the copy's destination is not live. -/
def Obligations.LiveBankIsNotChanged : Prop :=
  (∀ (s : State) (r : Request), ((s.execute r).state.bank s.liveBank).entries = (s.bank s.liveBank).entries) ∧
  (∀ s : State, s.operationSound → ∃ t, exec .copyStep s = .next t ∧
    (t.bank s.liveBank).entries = (s.bank s.liveBank).entries)

/-! ### Bank switching and copying (R63 to R82) -/

/-- The activation frame a request names: the number at a place of its payload if its mark is 1, else the next output
frame (R65). -/
def Sys2Proof.Machine.namedFrame (s : State) (p : List Byte) : Half :=
  if byteAt p 0 = 1 then halfAt p 1 else s.timing.counter + 1

/-- The frame lies in the activation window: 1 to 32768 ahead of the counter, modulo 65536 (R65). -/
def Sys2Proof.Machine.inWindow (s : State) (n : Half) : Prop :=
  1 ≤ (n - s.timing.counter).toNat ∧ (n - s.timing.counter).toNat ≤ 32768

/-- SWITCH: the checks in the order of R66, and the acceptance of R67. -/
def Obligations.SwitchIsCheckedAndAccepted : Prop :=
  ∀ (s : State) (h : ReqHeader) (p : List Byte), s.Ready h →
    let n := namedFrame s p
    let shadow := (s.bank s.shadowBank).editCount
    let expected : Option Half := if byteAt p 3 = 1 then some (halfAt p 4) else none
    (p.length ≠ 6 → exec (.switch h p) s = refused h .switch p .badLength s) ∧
    (p.length = 6 → (1 < (byteAt p 0).toNat ∨ 1 < (byteAt p 3).toNat) →
      exec (.switch h p) s = refused h .switch p .badField s) ∧
    (p.length = 6 → (byteAt p 0).toNat ≤ 1 → (byteAt p 3).toNat ≤ 1 →
      (s.operation ≠ none → exec (.switch h p) s = refused h .switch p .opBusy s) ∧
      (s.operation = none → ¬ inWindow s n → exec (.switch h p) s = refused h .switch p .tooLate s) ∧
      (s.operation = none → inWindow s n → (∃ x, expected = some x ∧ x ≠ shadow) →
        exec (.switch h p) s = answered h .switch p .editMismatch (octets shadow) s) ∧
      (s.operation = none → inWindow s n → (∀ x, expected = some x → x = shadow) →
        exec (.switch h p) s = answered h .switch p .accepted (octets n ++ octets shadow)
          (s.withOperation (some (.switch h.seq n expected)))))

/-- RESUME: the checks in the order of R71, and its acceptance. That an empty payload is one of the wrong length, though
a worked example of chapter 8 executes it, is the model's choice, log entry 24. -/
def Obligations.ResumeIsCheckedAndAccepted : Prop :=
  ∀ (s : State) (h : ReqHeader) (p : List Byte), s.Ready h →
    let n := namedFrame s p
    (p.length ≠ 3 → exec (.resume h p) s = refused h .resume p .badLength s) ∧
    (p.length = 3 → 1 < (byteAt p 0).toNat → exec (.resume h p) s = refused h .resume p .badField s) ∧
    (p.length = 3 → (byteAt p 0).toNat ≤ 1 →
      (s.operation ≠ none → exec (.resume h p) s = refused h .resume p .opBusy s) ∧
      (s.operation = none → s.isLapsed = false → exec (.resume h p) s = refused h .resume p .state s) ∧
      (s.operation = none → s.isLapsed = true → ¬ inWindow s n →
        exec (.resume h p) s = refused h .resume p .tooLate s) ∧
      (s.operation = none → s.isLapsed = true → inWindow s n →
        exec (.resume h p) s = answered h .resume p .accepted
          (octets n ++ octets (s.bank s.currentBank).editCount)
          (s.withOperation (some (.resume h.seq n)))))

/-- COPY: the checks in the order of R73, and the acceptance of R74. -/
def Obligations.CopyIsCheckedAndAccepted : Prop :=
  ∀ (s : State) (h : ReqHeader) (p : List Byte), s.Ready h →
    (p.length ≠ 2 → exec (.copy h p) s = refused h .copy p .badLength s) ∧
    (p.length = 2 → (2 < (byteAt p 0).toNat ∨ 2 < (byteAt p 1).toNat ∨ byteAt p 0 = byteAt p 1) →
      exec (.copy h p) s = refused h .copy p .badField s) ∧
    (∀ src dst : BankId, src ≠ dst → p = [src.code, dst.code] →
      (s.operation ≠ none → exec (.copy h p) s = refused h .copy p .opBusy s) ∧
      (s.operation = none → dst = s.liveBank → exec (.copy h p) s = refused h .copy p .liveBank s) ∧
      (s.operation = none → dst ≠ s.liveBank → dst = .f → s.map.frozen = true →
        exec (.copy h p) s = refused h .copy p .frozen s) ∧
      (s.operation = none → dst ≠ s.liveBank → (dst = .f → s.map.frozen = false) →
        exec (.copy h p) s = answered h .copy p .accepted (octets (s.bank src).editCount)
          (s.withOperation (some (.copy h.seq src dst 0)))))

/-- CANCEL: a payload is refused with BAD_LENGTH, no operation with STATE; a SWITCH or RESUME ends with OP_CANCELLED,
cause REQUEST; a COPY is abandoned, its destination's edit count raised by 1 and its steps kept, with COPY_DONE
ABANDONED (R78, R79, R82, R186). -/
def Obligations.CancelEndsTheOperation : Prop :=
  ∀ (s : State) (h : ReqHeader) (p : List Byte), s.Ready h →
    (p ≠ [] → exec (.cancel h p) s = refused h .cancel p .badLength s) ∧
    (p = [] → s.operation = none → exec (.cancel h p) s = refused h .cancel p .state s) ∧
    (∀ seq n x, p = [] → s.operation = some (.switch seq n x) →
      exec (.cancel h p) s = answered h .cancel p .ok
        ([1, seq] ++ octets n ++ [mark x.isSome] ++ octets (x.getD 0) ++ [0, 0, 0, 0, 0])
        ((s.withOperation none).raise .opCancelled (BitVec.ofNat 16 (4096 + seq.toNat)))) ∧
    (∀ seq n, p = [] → s.operation = some (.resume seq n) →
      exec (.cancel h p) s = answered h .cancel p .ok
        ([2, seq] ++ octets n ++ [0, 0, 0, 0, 0, 0, 0, 0])
        ((s.withOperation none).raise .opCancelled (BitVec.ofNat 16 (8192 + seq.toNat)))) ∧
    (∀ seq src dst n, p = [] → s.operation = some (.copy seq src dst n) →
      exec (.cancel h p) s = answered h .cancel p .ok
        ([3, seq, 0, 0, 0, 0, 0, src.code, dst.code, BitVec.ofNat 8 n] ++ octets ((s.bank dst).editCount + 1))
        (((s.setBank dst ⟨(s.bank dst).entries, (s.bank dst).editCount + 1⟩).withOperation none).raise .copyDone
          (BitVec.ofNat 16 (256 + seq.toNat))))

/-- COPY_STEP: the entry at the next index is copied and the progress rises by 1, the edit count unchanged; the step for
index 127 gives the destination the source's edit count, clears the record and raises COPY_DONE, COMPLETED (R22, R75,
R76, R82). Without a copy in progress the command changes nothing: the model's choice, log entry 4. -/
def Obligations.CopyStepCopiesOneEntry : Prop :=
  ∀ s : State, s.resetHeld = false →
    (∀ seq src dst (n : Nat) (hn : n < 127), s.operation = some (.copy seq src dst n) →
      exec .copyStep s = .next
        ((s.setBank dst
          ⟨(s.bank dst).entries.set ⟨n, by omega⟩ ((s.bank src).entries.get ⟨n, by omega⟩),
            (s.bank dst).editCount⟩).withOperation (some (.copy seq src dst (n + 1))))) ∧
    (∀ seq src dst, src ≠ dst → s.operation = some (.copy seq src dst 127) →
      exec .copyStep s = .next
        (((s.setBank dst
          ⟨(s.bank dst).entries.set 127 ((s.bank src).entries.get 127),
            (s.bank src).editCount⟩).withOperation none).raise .copyDone (BitVec.ofNat 16 seq.toNat))) ∧
    ((∀ seq src dst n, s.operation ≠ some (.copy seq src dst n)) → exec .copyStep s = .next s)

/-! ### Source protection (R45 to R62) -/

/-- READ_PROTECTION answers the record at the index and whether the live bank holds a protected route there, and changes
no state (R59). -/
def Obligations.ReadProtectionReturnsTheRecord : Prop :=
  ∀ (s : State) (h : ReqHeader) (p : List Byte), s.Ready h →
    (p.length ≠ 1 → exec (.readProtection h p) s = refused h .readProtection p .badLength s) ∧
    (p.length = 1 → 127 < (byteAt p 0).toNat →
      exec (.readProtection h p) s = refused h .readProtection p .badField s) ∧
    (∀ i : Fin 128, p = [BitVec.ofNat 8 i.val] →
      ∃ marked : Bool,
        exec (.readProtection h p) s = answered h .readProtection p .ok
          [BitVec.ofNat 8 i.val, (s.protection.get i).state.code, BitVec.ofNat 8 (s.protection.get i).count,
            (s.protection.get i).command.code, mark marked] s ∧
        (marked = true ↔ i ≠ s.reserved ∧ ∃ t a, (s.bank s.liveBank).entries.get i = .route t (some a)))

/-- PROTECTION_COMMAND: the checks in the order of R56; LOCK_PRIMARY and FORCE_ALTERNATE set state, count and command
(R57), NONE keeps the state and sets the count to 0 (R58); the other records stay. -/
def Obligations.ProtectionCommandSetsTheRecord : Prop :=
  ∀ (s : State) (h : ReqHeader) (p : List Byte), s.Ready h →
    (p.length ≠ 2 → exec (.protectionCommand h p) s = refused h .protectionCommand p .badLength s) ∧
    (p.length = 2 → (127 < (byteAt p 0).toNat ∨ 2 < (byteAt p 1).toNat) →
      exec (.protectionCommand h p) s = refused h .protectionCommand p .badField s) ∧
    (∀ (i : Fin 128) (c : ProtCommand), p = [BitVec.ofNat 8 i.val, c.code] →
      (i = s.reserved → exec (.protectionCommand h p) s = refused h .protectionCommand p .reservedSlot s) ∧
      (i ≠ s.reserved → (∀ t a, (s.bank s.liveBank).entries.get i ≠ .route t (some a)) →
        exec (.protectionCommand h p) s = refused h .protectionCommand p .badEntry s) ∧
      (i ≠ s.reserved → (∃ t a, (s.bank s.liveBank).entries.get i = .route t (some a)) →
        ∃ r : ProtRecord,
          (c = .none → r = ⟨(s.protection.get i).state, 0, .none⟩) ∧
          (c = .lockPrimary → r = ⟨.primary, 0, .lockPrimary⟩) ∧
          (c = .forceAlternate → r = ⟨.alternate, 0, .forceAlternate⟩) ∧
          exec (.protectionCommand h p) s = answered h .protectionCommand p .ok
            [BitVec.ofNat 8 i.val, r.state.code, BitVec.ofNat 8 r.count, r.command.code, 1]
            (s.withProtection (s.protection.set i r))))

/-- Automatic evaluation in PRIMARY and FAILING (R50, R51), for a record without a command, with hold-off H: a healthy
primary gives PRIMARY with count 0; a failing one counts to H, and at H the slot moves to an alternate that is not
FAULT, with PROTECTION_SWITCH, or waits in FAILING with count H. -/
def Obligations.HoldOffMovesToTheAlternate : Prop :=
  ∀ (count : Nat) (a : Alternate) (altFails : Bool), 1 ≤ a.holdOff →
    let primary : ProtRecord := ⟨.primary, count, .none⟩
    let failing : ProtRecord := ⟨.failing, count, .none⟩
    let moved : ProtRecord × Option ProtMove := (⟨.alternate, 0, .none⟩, some .switched)
    let waits (n : Nat) : ProtRecord × Option ProtMove := (⟨.failing, n, .none⟩, none)
    (primary.select a false altFails = (⟨.primary, 0, .none⟩, none)) ∧
    (1 < a.holdOff → primary.select a true altFails = waits 1) ∧
    (a.holdOff = 1 → altFails = false → primary.select a true altFails = moved) ∧
    (a.holdOff = 1 → altFails = true → primary.select a true altFails = waits 1) ∧
    (failing.select a false altFails = (⟨.primary, 0, .none⟩, none)) ∧
    (count + 1 < a.holdOff → failing.select a true altFails = waits (count + 1)) ∧
    (a.holdOff ≤ count + 1 → altFails = false → failing.select a true altFails = moved) ∧
    (a.holdOff ≤ count + 1 → altFails = true → failing.select a true altFails = waits a.holdOff) ∧
    (∀ n, (waits n).1.usesAlternate = false) ∧ moved.1.usesAlternate = true ∧
    primary.usesAlternate = false ∧ failing.usesAlternate = false

/-- Automatic evaluation in ALTERNATE and RESTORING (R52, R53), for a record without a command, with wait-to-restore W:
the cases of the two tables, the source each state uses, and how RESTORING is entered. -/
def Obligations.WaitToRestoreMovesBack : Prop :=
  ∀ (count : Nat) (a : Alternate) (altFails : Bool),
    let alternate : ProtRecord := ⟨.alternate, count, .none⟩
    let restoring : ProtRecord := ⟨.restoring, count, .none⟩
    let w := a.waitToRestore
    let reverts (m : ProtMove) : ProtRecord × Option ProtMove := (⟨.primary, 0, .none⟩, some m)
    let stays : ProtRecord × Option ProtMove := (⟨.alternate, 0, .none⟩, none)
    let counts (n : Nat) : ProtRecord × Option ProtMove := (⟨.restoring, n, .none⟩, none)
    (alternate.select a false true = reverts .alternateFailed) ∧
    (w = 0 → alternate.select a true altFails = stays ∧ alternate.select a false false = stays) ∧
    (w = 1 → alternate.select a false false = reverts .restored) ∧
    (2 ≤ w → alternate.select a false false = counts 1) ∧
    (1 ≤ w → alternate.select a true altFails = stays) ∧
    (restoring.select a false true = reverts .alternateFailed) ∧
    (restoring.select a true altFails = stays) ∧
    (count + 1 = w → restoring.select a false false = reverts .restored) ∧
    (count + 1 < w → restoring.select a false false = counts (count + 1)) ∧
    (∀ m, (reverts m).1.usesAlternate = false) ∧ stays.1.usesAlternate = true ∧
    (∀ n, (counts n).1.usesAlternate = true) ∧
    (∀ (r : ProtRecord) (fails : Bool), (r.select a fails altFails).1.state = .restoring →
      (r.state = .alternate ∧ 2 ≤ w ∨ r.state = .restoring) ∧ (r.select a fails altFails).1.count < w) ∧
    (restoring.commanded .none = ⟨.restoring, 0, .none⟩)

/-- A record under a command keeps its state and count 0, uses the commanded source whatever the health of the two, and
raises nothing (R55). -/
def Obligations.CommandOverridesEvaluation : Prop :=
  ∀ (a : Alternate) (fails altFails : Bool),
    let locked : ProtRecord := ⟨.primary, 0, .lockPrimary⟩
    let forced : ProtRecord := ⟨.alternate, 0, .forceAlternate⟩
    locked.select a fails altFails = (locked, none) ∧ locked.usesAlternate = false ∧
    forced.select a fails altFails = (forced, none) ∧ forced.usesAlternate = true

/-! ### Trunk requests (R87, R92, R100, R101) -/

/-- SET_TRUNK: its checks; an enable takes a disabled receiver to SEARCH and leaves another as it is; a disable takes a
receiver in SEARCH or VERIFY to DISABLED and leaves the rest of the part (R87, R101). -/
def Obligations.SetTrunkEnablesAndDisables : Prop :=
  ∀ (s : State) (h : ReqHeader) (p : List Byte), s.Ready h →
    (p.length ≠ 2 → exec (.setTrunk h p) s = refused h .setTrunk p .badLength s) ∧
    (p.length = 2 → (3 < (byteAt p 0).toNat ∨ 1 < (byteAt p 1).toNat) →
      exec (.setTrunk h p) s = refused h .setTrunk p .badField s) ∧
    (∀ t : Trunk, p = [BitVec.ofNat 8 t.val, 0] → t = s.mgmtTrunk →
      exec (.setTrunk h p) s = refused h .setTrunk p .notPermitted s) ∧
    (∀ t : Trunk, p = [BitVec.ofNat 8 t.val, 1] → (s.receiver t).align = .disabled →
      exec (.setTrunk h p) s = answered h .setTrunk p .ok [BitVec.ofNat 8 t.val, 1]
        (s.setReceiver t { s.receiver t with
          align := .search, signalPresent := true, testFrom := (s.receiver t).received })) ∧
    (∀ t : Trunk, p = [BitVec.ofNat 8 t.val, 1] → (s.receiver t).align ≠ .disabled →
      exec (.setTrunk h p) s = answered h .setTrunk p .ok
        [BitVec.ofNat 8 t.val, BitVec.ofNat 8 (s.receiver t).align.code.toNat] s) ∧
    (∀ t : Trunk, p = [BitVec.ofNat 8 t.val, 0] → t ≠ s.mgmtTrunk →
      (∀ c miss rem, (s.receiver t).align ≠ .locked c miss rem) →
      exec (.setTrunk h p) s = answered h .setTrunk p .ok [BitVec.ofNat 8 t.val, 0]
        (s.setReceiver t { s.receiver t with
          align := .disabled, lastFet := false, farInFallback := false, signalPresent := true }))

/-- A SET_TRUNK disable of a receiver in LOCKED, with the effects of R92 and without LOCK_LOST or a lock-loss count
(R101). What it does to the source of starts is the model's reading, log entry 16: a trunk that is the source loses a start
it has owed, and one that a too-soon first delivery has stopped gives way to a timer that stays stopped. -/
def Obligations.DisableLeavesLocked : Prop :=
  ∀ (s : State) (h : ReqHeader) (t : Trunk) (c miss : Nat) (rem : Option (BitVec 4)), s.Ready h →
    t ≠ s.mgmtTrunk → (s.receiver t).align = .locked c miss rem →
    ∃ u, exec (.setTrunk h [BitVec.ofNat 8 t.val, 0]) s =
        answered h .setTrunk [BitVec.ofNat 8 t.val, 0] .ok [BitVec.ofNat 8 t.val, 0] u ∧
      u.receiver t = { s.receiver t with
        align := .disabled, lastFet := false, farInFallback := false, signalPresent := true } ∧
      u.store t = ⟨.idle, [], none⟩ ∧ u.timing = timingAfterLoss s t ∧
      (∀ k, k ≠ t → u.receiver k = s.receiver k ∧ u.store k = s.store k) ∧
      occurrences s u [] (fun
        | .referenceChange => lossReports s u t
        | _ => []) ∧ queueGrew s u ∧ settingsKept s u ∧
      u.map = s.map ∧ u.exchange = s.exchange ∧ u.protection = s.protection ∧ u.operation = s.operation ∧
      u.supervision = s.supervision

/-- READ_COUNTERS answers the five counters of the trunk, and clears them at the same moment when the clear flag is 1
(R99, R100). -/
def Obligations.ReadCountersReadsAndClears : Prop :=
  ∀ (s : State) (h : ReqHeader) (p : List Byte), s.Ready h →
    (p.length ≠ 2 → exec (.readCounters h p) s = refused h .readCounters p .badLength s) ∧
    (p.length = 2 → (3 < (byteAt p 0).toNat ∨ 1 < (byteAt p 1).toNat) →
      exec (.readCounters h p) s = refused h .readCounters p .badField s) ∧
    (∀ (t : Trunk) (clear : Bool), p = [BitVec.ofNat 8 t.val, mark clear] →
      let c := (s.receiver t).counters
      exec (.readCounters h p) s = answered h .readCounters p .ok
        ([BitVec.ofNat 8 t.val] ++ octets (BitVec.ofNat 16 c.checkErrors) ++ octets (BitVec.ofNat 16 c.lockLosses)
          ++ octets (BitVec.ofNat 16 c.sequenceGaps) ++ octets (BitVec.ofNat 16 c.dropSlips)
          ++ octets (BitVec.ofNat 16 c.repeatSlips))
        (if clear then s.setReceiver t { s.receiver t with counters := ⟨0, 0, 0, 0, 0⟩ } else s))

/-! ### Frame timing (R116 to R128) -/

/-- SET_REFERENCE: the checks of R121; an accepted one replaces the list, evaluates the selection, and reports the timer
state, the tracked trunk and the qualified trunks (R122). The state it leaves is the one of SelectionIsEvaluated. That bits
7 to 4 of the qualified marks, which the layout does not name, are 0 is the model's choice, log entry 25. -/
def Obligations.SetReferenceReplacesTheList : Prop :=
  ∀ (s : State) (h : ReqHeader) (p : List Byte), s.Ready h →
    (p.length ≠ 1 + (byteAt p 0).toNat → exec (.setReference h p) s = refused h .setReference p .badLength s) ∧
    (p.length = 1 + (byteAt p 0).toNat →
      (4 < (byteAt p 0).toNat ∨ (∃ x ∈ p.drop 1, 3 < x.toNat) ∨ ¬ (p.drop 1).Nodup) →
      exec (.setReference h p) s = refused h .setReference p .badField s) ∧
    (∀ l : List Trunk, l.length ≤ 4 → l.Nodup →
      p = BitVec.ofNat 8 l.length :: l.map (fun t => BitVec.ofNat 8 t.val) →
      let u := (s.withTiming { s.timing with refList := l }).evaluateReference
      ∃ marks : Byte, exec (.setReference h p) s = answered h .setReference p .ok
        [BitVec.ofNat 8 u.timing.state.code.toNat,
          match u.timing.state with
          | .freeRun => 0xFF
          | .tracking t => BitVec.ofNat 8 t.val
          | .holdover t _ => BitVec.ofNat 8 t.val,
          marks] u ∧
        (∀ t : Trunk, marks.getLsbD t.val = (s.timing.delivered.get t == 64)) ∧ marks.toNat < 16)

/-- The table of R124, with the change of source and the hand-over it brings (R123, R126, R127): the selection is the
first trunk of the list with 64 deliveries; REFERENCE_CHANGE is raised exactly when the state or the tracked trunk changes
(R128). What becomes of a source stopped by a too-soon first delivery is log entry 16. -/
def Obligations.SelectionIsEvaluated : Prop :=
  ∀ s : State,
    let tm := s.timing
    let u := s.evaluateReference
    let standsIn : Timing :=
      { tm with source := .timer, handOver := none, owed := if tm.source = .timer then tm.owed else none }
    (tm.selection = tm.refList.find? fun t => tm.delivered.get t == 64) ∧
    (tm.refList = [] → u.timing = { standsIn with state := .freeRun }) ∧
    (tm.refList ≠ [] → tm.selection = none →
      (∀ t, tm.state = .tracking t → u.timing = { standsIn with state := .holdover t 8192 }) ∧
      ((∀ t, tm.state ≠ .tracking t) → u.timing = tm)) ∧
    (∀ t, tm.refList ≠ [] → tm.selection = some t → tm.state = .tracking t → u.timing = tm) ∧
    (∀ t, tm.refList ≠ [] → tm.selection = some t → tm.state ≠ .tracking t →
      (sourceStopped tm →
        u.timing = { tm with state := .tracking t, source := .timer, owed := none, handOver := some ⟨t, false⟩ }) ∧
      (¬ sourceStopped tm → tm.source = .trunk t → u.timing = { tm with state := .tracking t, handOver := none }) ∧
      (¬ sourceStopped tm → tm.source ≠ .trunk t →
        u.timing = { tm with state := .tracking t, handOver := some ⟨t, false⟩ })) ∧
    (sameReference tm.state u.timing.state → u = s.withTiming u.timing) ∧
    (¬ sameReference tm.state u.timing.state →
      u = (s.withTiming u.timing).raise .referenceChange (referenceReport u.timing.state))

/-! ### Supervision (R157 to R170) -/

/-- KEEP: a new phase in WATCHING reloads the count, a repeated one is STALE with STALE_KEEP; outside WATCHING the phase
alone is stored; the response reports state, count and cause (R158 to R160). -/
def Obligations.KeepReloadsOrIsStale : Prop :=
  ∀ (s : State) (h : ReqHeader) (p : List Byte), s.Ready h →
    (p.length ≠ 1 → exec (.keep h p) s = refused h .keep p .badLength s) ∧
    (p.length = 1 → byteAt p 0 ≠ 1 → byteAt p 0 ≠ 2 → exec (.keep h p) s = refused h .keep p .badField s) ∧
    (∀ phase : KeepPhase, p = [match phase with | .a => 1 | .b => 2] →
      (∀ c, s.supervision.state = .watching c → s.supervision.lastPhase ≠ some phase →
        exec (.keep h p) s = answered h .keep p .ok
          ([1] ++ octets (BitVec.ofNat 16 s.supervision.period.toNat) ++ [0])
          (s.withSupervision { s.supervision with
            state := .watching s.supervision.period.toNat, lastPhase := some phase })) ∧
      (∀ c, s.supervision.state = .watching c → s.supervision.lastPhase = some phase →
        exec (.keep h p) s = answered h .keep p .stale ([1] ++ octets (BitVec.ofNat 16 c) ++ [0])
          (s.raise .staleKeep 0)) ∧
      (s.supervision.state = .off →
        exec (.keep h p) s = answered h .keep p .ok [0, 0, 0, 0]
          (s.withSupervision { s.supervision with lastPhase := some phase })) ∧
      (∀ cause, s.supervision.state = .lapsed cause →
        exec (.keep h p) s = answered h .keep p .ok [2, 0, 0, cause.code]
          (s.withSupervision { s.supervision with lastPhase := some phase })))

/-- SET_SUPERVISION: the checks and the table of R165; the last accepted phase is left. -/
def Obligations.SetSupervisionSetsThePeriod : Prop :=
  ∀ (s : State) (h : ReqHeader) (p : List Byte), s.Ready h →
    let v := s.supervision
    let n := halfAt p 0
    let reports (u : Supervision) : List Byte :=
      [u.state.code, mark u.enabled] ++ octets u.period ++ octets (BitVec.ofNat 16 u.state.count) ++ [u.state.causeCode]
    let sets (u : Supervision) : Prop :=
      exec (.setSupervision h p) s = answered h .setSupervision p .ok (reports u) (s.withSupervision u)
    (p.length ≠ 2 → exec (.setSupervision h p) s = refused h .setSupervision p .badLength s) ∧
    (p.length = 2 → 1 ≤ n.toNat → n.toNat ≤ 255 →
      exec (.setSupervision h p) s = refused h .setSupervision p .badField s) ∧
    (p.length = 2 → n = 0 → s.straps.supv = true →
      exec (.setSupervision h p) s = refused h .setSupervision p .notPermitted s) ∧
    (p.length = 2 → n = 0 → s.straps.supv = false →
      (v.state = .off → sets { v with enabled := false }) ∧
      (∀ c, v.state = .watching c → sets { v with enabled := false, state := .off }) ∧
      (∀ cause, v.state = .lapsed cause → sets { v with enabled := false })) ∧
    (p.length = 2 → 256 ≤ n.toNat →
      (v.state = .off → sets { v with enabled := true, period := n, state := .watching n.toNat }) ∧
      (∀ c, v.state = .watching c → sets { v with enabled := true, period := n, state := .watching n.toNat }) ∧
      (∀ cause, v.state = .lapsed cause → sets { v with enabled := true, period := n }))

/-- FALLBACK from OFF or WATCHING: supervision lapses with cause FALLBACK, a pending SWITCH is cancelled, a copy into F
is abandoned, protection records return to rest where the frame's entry set and F differ, LAPSE is raised, and the
response names the next frame; in LAPSED it is refused with STATE and the cause (R22, R61, R70, R161, R164). Before the
first output frame start there is no entry set to compare: the model's reading, log entry 19. -/
def Obligations.FallbackHandsThePartToF : Prop :=
  ∀ (s : State) (h : ReqHeader) (p : List Byte), s.Ready h →
    (p ≠ [] → exec (.fallback h p) s = refused h .fallback p .badLength s) ∧
    (∀ cause, p = [] → s.supervision.state = .lapsed cause →
      exec (.fallback h p) s = answered h .fallback p .state [cause.code] s) ∧
    (p = [] → s.isLapsed = false →
      ∃ u, exec (.fallback h p) s = answered h .fallback p .ok (octets (s.timing.counter + 1)) u ∧
        u.supervision = { s.supervision with state := .lapsed .fallback } ∧ u.liveBank = .f ∧
        occurrences s u [] (fun
          | .lapse => [2]
          | .opCancelled =>
              match s.operation with
              | some (.switch seq _ _) => [BitVec.ofNat 16 (4096 + 512 + seq.toNat)]
              | _ => []
          | .copyDone =>
              match s.operation with
              | some (.copy seq _ .f _) => [BitVec.ofNat 16 (256 + seq.toNat)]
              | _ => []
          | _ => []) ∧
        queueGrew s u ∧ settingsKept s u ∧ u.straps = s.straps ∧ u.resetHeld = s.resetHeld ∧ u.pending = s.pending ∧
        (∀ l, s.exchange.latched = some l → ∀ i, u.protection.get i =
          if l.entries.get i = (s.bank .f).entries.get i then s.protection.get i else ⟨.primary, 0, .none⟩) ∧
        (s.exchange.latched = none → u.protection = s.protection) ∧
        (s.operation = none → u.operation = none ∧ u.map = s.map) ∧
        (∀ seq n x, s.operation = some (.switch seq n x) → u.operation = none ∧ u.map = s.map) ∧
        (∀ seq src n, s.operation = some (.copy seq src .f n) → u.operation = none ∧
          u.map = { s.map with bankF := ⟨s.map.bankF.entries, s.map.bankF.editCount + 1⟩ }) ∧
        (∀ seq src dst n, s.operation = some (.copy seq src dst n) → dst ≠ .f →
          u.operation = s.operation ∧ u.map = s.map) ∧
        u.receivers = s.receivers ∧ u.stores = s.stores ∧ u.timing = s.timing ∧ u.exchange = s.exchange)

/-- FREEZE_FALLBACK sets the frozen flag, unless it is set or F is the destination of a copy; F keeps its entries and
its edit count (R6, R167). -/
def Obligations.FreezeSetsTheFlag : Prop :=
  ∀ (s : State) (h : ReqHeader) (p : List Byte), s.Ready h →
    (p ≠ [] → exec (.freezeFallback h p) s = refused h .freezeFallback p .badLength s) ∧
    (p = [] → s.map.frozen = true → exec (.freezeFallback h p) s = refused h .freezeFallback p .state s) ∧
    (∀ seq src n, p = [] → s.map.frozen = false → s.operation = some (.copy seq src .f n) →
      exec (.freezeFallback h p) s = refused h .freezeFallback p .bankBusy s) ∧
    (p = [] → s.map.frozen = false → (∀ seq src n, s.operation ≠ some (.copy seq src .f n)) →
      exec (.freezeFallback h p) s = answered h .freezeFallback p .ok (octets (s.bank .f).editCount)
        (s.withMap { s.map with frozen := true }))

/-- Once F is frozen, its entries, edit count and flag stay as they are through every command but POWER_UP, for a state
whose pending operation is sound (R6, R25). -/
def Obligations.FrozenFallbackBankIsKept : Prop :=
  ∀ (i : Instr) (s : State), s.map.frozen = true → s.operationSound → (∀ pins low, i ≠ .powerUp pins low) →
    ∃ t, exec i s = .next t ∧ t.bank .f = s.bank .f ∧ t.map.frozen = true

/-! ### Events and notices (R171 to R181) -/

/-- An occurrence of an event sets its flag, raises its count, replaces its detail, and makes the record OWED when its
mask bit is set and its notice state is NONE; the owed records are then offered, and nothing else changes (R172, R173).
ALERT_N is low exactly while some flag is set with its mask bit and the part is not held in reset (R180). -/
def Obligations.OccurrenceSetsTheRecord : Prop :=
  (∀ (s : State) (ev : Event) (detail : Half),
    let old := s.record ev.num
    let new : EventRecord :=
      ⟨true, if old.count < 255 then old.count + 1 else old.count, detail,
        if s.events.mask.getLsbD ev.num.val = true ∧ old.notice = .none then .owed else old.notice⟩
    ∃ es, State.offered (s.withEvents { s.events with records := s.events.records.set ev.num new })
      (s.raise ev detail) es) ∧
  (∀ s : State, s.alertLow = true ↔
    s.resetHeld = false ∧ ∃ e : Fin 16, (s.record e).flag = true ∧ s.events.mask.getLsbD e.val = true)

/-- READ_EVENTS answers the flags, the mask, the notice states, and the count and detail of every event, in 56 octets
(R179, R186), and changes no state; with a payload it is refused with BAD_LENGTH. -/
def Obligations.ReadEventsReportsEveryRecord : Prop :=
  ∀ (s : State) (h : ReqHeader) (p : List Byte), s.Ready h →
    (p = [] → ∃ q, exec (.readEvents h p) s = answered h .readEvents p .ok q s ∧ q.length = 56 ∧
      (∀ e : Fin 16, (halfAt q 0).getLsbD e.val = (s.record e).flag) ∧ halfAt q 2 = s.events.mask ∧
      (∀ e : Fin 16, (byteAt q (4 + e.val / 4)).extractLsb' (6 - 2 * (e.val % 4)) 2 =
        (match (s.record e).notice with
          | .none => 0#2
          | .owed => 1#2
          | .queued => 2#2
          | .sent => 3#2)) ∧
      (∀ e : Fin 16, byteAt q (8 + 3 * e.val) = BitVec.ofNat 8 (s.record e).count ∧
        halfAt q (9 + 3 * e.val) = (s.record e).detail)) ∧
    (p ≠ [] → exec (.readEvents h p) s = refused h .readEvents p .badLength s)

/-- ACK_EVENTS clears the named records, withdraws their notices, and lets owed notices into the room this frees; it
answers the flags that are left (R175, R178). That all are withdrawn before the room is handed out is the model's choice,
log entry 15. -/
def Obligations.AckEventsClearsTheNamedRecords : Prop :=
  ∀ (s : State) (h : ReqHeader) (p : List Byte), s.Ready h →
    let named : Fin 16 → Bool := fun e => (halfAt p 0).getLsbD e.val
    let cleared := withdrawn s named
      { s.events with records := Table.ofFn fun e => if named e then ⟨false, 0, 0, .none⟩ else s.record e }
    (p.length ≠ 2 → exec (.ackEvents h p) s = refused h .ackEvents p .badLength s) ∧
    (p.length = 2 → ∃ u es flags, exec (.ackEvents h p) s = answered h .ackEvents p .ok (octets flags) u ∧
      State.offered cleared u es ∧ ∀ e : Fin 16, flags.getLsbD e.val = ((s.record e).flag && !named e))

/-- SET_EVENTS sets mask and interval and reloads the re-notify count; events that lose their bit keep flag, count and
detail and lose their notice; then set records that gain their bit become OWED and are offered; it answers mask and
interval (R176, R177). That all are withdrawn before the room is handed out, and that the bits lost come before the bits
gained, is the model's choice, log entry 15. -/
def Obligations.SetEventsSetsMaskAndInterval : Prop :=
  ∀ (s : State) (h : ReqHeader) (p : List Byte), s.Ready h →
    let mask : BitVec 16 := halfAt p 0
    let interval := byteAt p 2
    let lost : Fin 16 → Bool := fun e => s.events.mask.getLsbD e.val && !mask.getLsbD e.val
    let gained : Fin 16 → Bool := fun e => !s.events.mask.getLsbD e.val && mask.getLsbD e.val
    let masked := withdrawn s lost
      { s.events with
        records := Table.ofFn fun e => if lost e then { s.record e with notice := .none } else s.record e
        mask := mask, interval := interval, renotify := 256 * interval.toNat }
    (p.length ≠ 3 → exec (.setEvents h p) s = refused h .setEvents p .badLength s) ∧
    (p.length = 3 → ∃ v es u es',
      exec (.setEvents h p) s = answered h .setEvents p .ok (octets mask ++ [interval]) u ∧
      State.offered masked v es ∧
      State.offered (v.withEvents { v.events with
        records := Table.ofFn fun e =>
          if gained e = true ∧ (v.record e).flag = true ∧ (v.record e).notice = .none then
            { v.record e with notice := .owed }
          else v.record e }) u es')

/-- NOTICE_OFFER offers the owed records (R173). HELD_RESPONSE_PLACED places a held response when the queue holds fewer
than 8 messages, lets the processor take the requests that wait, the oldest first, until it holds a response again or none
is left, and then offers the owed records (R142, R145, R146). A RESTART taken from the queue discards the requests behind
it (R154). That the two commands hand out whatever room there is at their moment, also with nothing held, is the model's
reading, log entry 14. -/
def Obligations.RoomIsHandedOut : Prop :=
  (∀ s : State, s.resetHeld = false →
    (∃ u es, exec .noticeOffer s = .next u ∧ State.offered s u es) ∧
    (∀ x, s.channel.held = some x → s.channel.txQueue.length < 8 →
      ∃ u es, exec .heldResponsePlaced s = .next u ∧
        State.offered (State.process (s.withChannel
          { s.channel with held := none, txQueue := s.channel.txQueue ++ [.response x.response] })) u es) ∧
    (s.channel.held = none ∨ 8 ≤ s.channel.txQueue.length →
      ∃ u es, exec .heldResponsePlaced s = .next u ∧ State.offered s u es)) ∧
  (∀ s : State,
    (s.channel.held ≠ none ∨ s.channel.requests = [] → s.process = s) ∧
    (∀ r rest, s.channel.held = none → s.channel.requests = r :: rest →
      let taken := s.withChannel { s.channel with requests := rest }
      s.process = (State.complete r (taken.execute r)).process ∧
      (r.code = 0x03 → r.payload = [] → s.process = State.complete r ⟨.ok, [], clearedByRestart taken⟩)))

/-! ### Output frames (R26 to R43, R117) -/

/-- An output frame start: the number goes up by one and the start has its moment, each store designates, the live bank
becomes the frame bank, the protection records are adjusted at a change of frame bank and select, their moves and the
mixes that clip raise their events in ascending order of index, and the four frames are settled from the frame's entry
set, with the transmitter's word in the output management slot (R27 to R30, R37 to R43, R49, R54, R60, R72, R108 to R110,
R117 to R119, R125, R147). The state `u` is the one the frame is settled in; the transmitter then goes on
(TransmitterChoosesAndSends), and the repeat slips are counted and raised (R109, R112, R115). The comparison with F at a
RESUME is the model's reading, log entry 19, and the comparison at a SWITCH in LAPSED that is the first start after a
FALLBACK its choice, log entry 23; the moment in clock periods, log entry 7; the order, log entry 8. -/
def Obligations.StartBuildsTheFrames : Prop :=
  ∀ s : State, s.resetHeld = false → sourceReady s.timing →
    ∃ u : State, exec .outputFrameStart s = .next (withRepeatSlips s u.transmitStart) ∧
      (let moment : Nat :=
        match s.timing.source with
        | .timer => max s.timing.now (s.timing.lastStart + framePeriod s)
        | .trunk _ => max s.timing.now (s.timing.owed.getD s.timing.now)
       u.timing = { s.timing with
        counter := s.timing.counter + 1, now := moment, lastStart := moment, owed := none
        state :=
          match s.timing.state with
          | .holdover t c => if c ≤ 1 then .freeRun else .holdover t (c - 1)
          | other => other }) ∧
      u.pending = s.pending ∧ u.resetHeld = s.resetHeld ∧ u.straps = s.straps ∧ u.receivers = s.receivers ∧
      queueGrew s u ∧
      u.events.mask = s.events.mask ∧ u.events.interval = s.events.interval ∧
      u.events.renotify =
        (if s.events.interval = 0 then s.events.renotify
         else if s.events.renotify ≤ 1 then 256 * s.events.interval.toNat else s.events.renotify - 1) ∧
      ((∀ seq n x, s.operation = some (.switch seq n x) → n ≠ s.timing.counter + 1) →
        (∀ seq n, s.operation = some (.resume seq n) → n ≠ s.timing.counter + 1) →
        (∀ c, s.supervision.state = .watching c → 2 ≤ c →
          u.supervision = { s.supervision with state := .watching (c - 1) } ∧ u.operation = s.operation ∧
            u.map = s.map) ∧
        ((∀ c, s.supervision.state ≠ .watching c) →
          u.supervision = s.supervision ∧ u.operation = s.operation ∧ u.map = s.map) ∧
        ((∀ c, s.supervision.state = .watching c → 2 ≤ c) →
          occurrences s u [.slip, .checkError, .farEndTrouble, .referenceChange, .protectionSwitch, .protectionRevert,
            .mixClip] (fun _ => []))) ∧
      (∀ t, u.store t =
        (match (s.store t).phase, (s.store t).queue with
          | .running, fr :: rest => ⟨.running, rest, some fr⟩
          | .running, [] => s.store t
          | phase, queue => ⟨phase, queue, none⟩)) ∧
      (let entries := (u.bank u.liveBank).entries
       let resumes : Bool :=
         match s.operation with
         | some (.resume _ n) => n == s.timing.counter + 1
         | _ => false
       let changed (i : Fin 128) : Bool :=
         (resumes && (s.bank .f).entries.get i != entries.get i) ||
         (match s.exchange.latched with
          | some old => (resumes || old.bank != u.liveBank) && old.entries.get i != entries.get i
          | none => false)
       let base (i : Fin 128) : ProtRecord := if changed i then ⟨.primary, 0, .none⟩ else s.protection.get i
       let selected (i : Fin 128) : ProtRecord × Option ProtMove :=
         match entries.get i with
         | .route p (some a) =>
             if i = s.reserved then (base i, none) else (base i).select a (u.termFails p) (u.termFails a.term)
         | _ => (base i, none)
       u.exchange.latched = some ⟨u.liveBank, entries⟩ ∧
       (∀ i, u.protection.get i = (selected i).1) ∧
       occurrences s u [.switchDone, .opCancelled, .copyDone, .lapse] (fun
         | .referenceChange =>
             match s.timing.state with
             | .holdover _ c => if c ≤ 1 then [0] else []
             | _ => []
         | .protectionSwitch => (List.finRange 128).filterMap fun i =>
             if (selected i).2 = some .switched then some (BitVec.ofNat 16 i.val) else none
         | .protectionRevert => (List.finRange 128).filterMap fun i =>
             if (selected i).2 = some .restored then some (BitVec.ofNat 16 i.val)
             else if (selected i).2 = some .alternateFailed then some (BitVec.ofNat 16 (256 + i.val))
             else none
         | .mixClip => (List.finRange 128).filterMap fun i =>
             if i ≠ s.reserved ∧ u.mixClips (entries.get i) = true then some (BitVec.ofNat 16 i.val) else none
         | _ => []) ∧
       ∃ word : SlotRecord,
         (∀ it k a, s.channel.transmitter = .sending it k a → word = ⟨it.message.words.getD k 0, .data⟩) ∧
         (s.channel.transmitter = .gap → word = ⟨0, .idle⟩) ∧
         (s.channel.transmitter = .idle →
           word = (match State.choose u.channel.txQueue u.channel.streak with
             | some (it, _) => ⟨it.message.words.getD 0 0, .data⟩
             | none => ⟨0, .idle⟩)) ∧
         u.exchange.output = some (Table.ofFn fun t =>
           sentFrame (u.timing.counter.extractLsb' 0 4)
             (match (s.receiver t).align with
               | .search => true
               | .verify _ _ => true
               | _ => false)
             (u.liveBank == .f)
             (Table.ofFn fun sl =>
               if slotIndex t sl = s.reserved then word
               else u.trafficSlot (entries.get (slotIndex t sl)) (u.protection.get (slotIndex t sl)))))

/-- The starts at which something falls due, each by its own command: a SWITCH and a RESUME activate, supervision
expires (cancelling a pending SWITCH, whichever frame it names, and abandoning a copy into F), the holdover ends, SENT
records are reported again (R68, R69, R70, R72, R125, R161, R162, R166, R177). Each of the five commands then makes the whole
start, as OUTPUT_FRAME_START does. That the five are starts, and that without its occurrence a command makes none, is the
model's choice, log entry 3. The state `u` is the one the frame is settled in (StartBuildsTheFrames). -/
def Obligations.DueOccurrencesHappenAtTheirStart : Prop :=
  ∀ s : State, s.resetHeld = false → sourceReady s.timing →
    let makes (i : Instr) (u : State) : Prop :=
      exec i s = .next (withRepeatSlips s u.transmitStart) ∧ exec .outputFrameStart s = exec i s
    let had (u : State) (ev : Event) (ds : List Half) : Prop :=
      (u.record ev.num).facts = (s.record ev.num).after ds
    (∀ seq n x, s.operation = some (.switch seq n x) → n = s.timing.counter + 1 →
      ∃ u : State, makes .switchActivation u ∧ u.operation = none ∧
        ((∀ c, s.supervision.state = .watching c → 2 ≤ c) →
          u.map = { s.map with current := s.map.current.other } ∧
          (∀ c, s.supervision.state = .watching c →
            u.supervision = { s.supervision with state := .watching (c - 1) }) ∧
          ((∀ c, s.supervision.state ≠ .watching c) → u.supervision = s.supervision) ∧
          (s.isLapsed = false → u.liveBank = s.shadowBank) ∧ (s.isLapsed = true → u.liveBank = .f) ∧
          had u .switchDone [BitVec.ofNat 16
            (4096 * s.shadowBank.code.toNat + 256 * u.liveBank.code.toNat + seq.toNat)] ∧
          had u .opCancelled [] ∧ had u .lapse []) ∧
        (∀ c, s.supervision.state = .watching c → c ≤ 1 → u.map = s.map ∧ had u .switchDone [])) ∧
    (∀ seq n, s.operation = some (.resume seq n) → n = s.timing.counter + 1 → s.isLapsed = true →
      ∃ u : State, makes .resumeActivation u ∧ u.operation = none ∧
        u.map = s.map ∧ u.liveBank = s.currentBank ∧
        u.supervision = { s.supervision with
          state := if s.supervision.enabled then .watching s.supervision.period.toNat else .off
          lastPhase := none } ∧
        had u .switchDone [BitVec.ofNat 16
          (4096 * s.currentBank.code.toNat + 256 * s.currentBank.code.toNat + seq.toNat)]) ∧
    (∀ c, s.supervision.state = .watching c → c ≤ 1 → (∀ seq n, s.operation ≠ some (.resume seq n)) →
      ∃ u : State, makes .supervisionExpiry u ∧
        u.supervision = { s.supervision with state := .lapsed .expiry } ∧ u.liveBank = .f ∧ had u .lapse [1] ∧
        (s.operation = none → u.operation = none ∧ u.map = s.map ∧ had u .opCancelled [] ∧ had u .copyDone []) ∧
        (∀ seq n x, s.operation = some (.switch seq n x) → u.operation = none ∧ u.map = s.map ∧
          had u .opCancelled [BitVec.ofNat 16 (4096 + 256 + seq.toNat)]) ∧
        (∀ seq src m, s.operation = some (.copy seq src .f m) → u.operation = none ∧
          u.map = { s.map with bankF := ⟨s.map.bankF.entries, s.map.bankF.editCount + 1⟩ } ∧
          had u .copyDone [BitVec.ofNat 16 (256 + seq.toNat)]) ∧
        (∀ seq src dst m, s.operation = some (.copy seq src dst m) → dst ≠ .f →
          u.operation = s.operation ∧ u.map = s.map)) ∧
    (∀ t c, s.timing.state = .holdover t c → c ≤ 1 →
      ∃ u : State, makes .holdoverExpiry u ∧
        u.timing.state = .freeRun ∧ u.timing.source = s.timing.source ∧ had u .referenceChange [0]) ∧
    (s.events.interval ≠ 0 → s.events.renotify ≤ 1 →
      ∃ u : State, makes .renotify u ∧
        u.events.renotify = 256 * s.events.interval.toNat ∧
        ∀ e, (s.record e).notice = .sent → (u.record e).notice = .owed ∨ (u.record e).notice = .queued) ∧
    ((∀ seq n x, s.operation = some (.switch seq n x) → n ≠ s.timing.counter + 1) →
      exec .switchActivation s = .next s) ∧
    ((∀ seq n, s.operation = some (.resume seq n) → n ≠ s.timing.counter + 1) →
      exec .resumeActivation s = .next s) ∧
    ((∀ c, s.supervision.state = .watching c → 2 ≤ c) → exec .supervisionExpiry s = .next s) ∧
    ((∀ t c, s.timing.state = .holdover t c → 2 ≤ c) → exec .holdoverExpiry s = .next s) ∧
    ((s.events.interval = 0 ∨ 2 ≤ s.events.renotify) → exec .renotify s = .next s)

/-- The output frame counter goes up by one, wrapping, at an output frame start and by no other cause; power-up and the
release of RESET_N set it to 65535 (R117). A source with no start to make makes none (R118, R119, R127). That six commands
are output frame starts, and that one of them which leaves the counter makes no start and leaves the whole part, is the
model's choice, log entry 3. -/
def Obligations.OnlyStartsAndResetsMoveTheCounter : Prop :=
  ∀ (i : Instr) (s : State),
    let isStart : Prop :=
      i = .outputFrameStart ∨ i = .switchActivation ∨ i = .resumeActivation ∨ i = .supervisionExpiry
        ∨ i = .holdoverExpiry ∨ i = .renotify
    (isStart → ∃ u, exec i s = .next u ∧ (u.timing.counter = s.timing.counter + 1 ∨ u = s)) ∧
    (isStart → s.resetHeld = true → exec i s = .next s) ∧
    (isStart → ¬ sourceReady s.timing → exec i s = .next s) ∧
    (i = .outputFrameStart → s.resetHeld = false → sourceReady s.timing →
      ∃ u, exec i s = .next u ∧ u.timing.counter = s.timing.counter + 1) ∧
    (∀ pins low, i = .powerUp pins low → ∃ u, exec i s = .next u ∧ u.timing.counter = 65535) ∧
    (∀ pins, i = .resetNRelease pins → s.resetHeld = true → ∃ u, exec i s = .next u ∧ u.timing.counter = 65535) ∧
    (¬ isStart → (∀ pins low, i ≠ .powerUp pins low) →
      (∀ pins, i = .resetNRelease pins → s.resetHeld = false) →
      ∃ u, exec i s = .next u ∧ u.timing.counter = s.timing.counter)

/-- The input slot read (the table of R30) and failing source terms (R47); the value of a source term (R31); the slots of
OFF, FIXED, unprotected ROUTE and MIX entries, whatever the protection record (R32, R33, R35, R36), and of a protected
ROUTE, by the state its record has after selection (R34): the shift rounds toward minus infinity, the negation of −32768 is
32767, the sum of the DATA terms is exact and saturates once. -/
def Obligations.SlotsAreBuiltByMode : Prop :=
  ∀ (s : State) (r : ProtRecord),
    (∀ t : Term,
      let read := s.readInput t.trunk t.slot
      let shifted : Int := read.sample.toInt / (2 ^ t.shift.val : Int)
      (s.termValue t).qual = read.qual ∧
      (t.invert = false → (s.termValue t).sample.toInt = shifted) ∧
      (t.invert = true → (s.termValue t).sample.toInt = min 32767 (-shifted))) ∧
    (∀ (t : Trunk) (slot : Fin 32),
      (t = s.mgmtTrunk → slot = 31 → s.readInput t slot = ⟨0, .fault⟩) ∧
      ((s.store t).current = none → s.readInput t slot = ⟨0, .fault⟩) ∧
      (∀ fr, (s.store t).current = some fr → ¬ (t = s.mgmtTrunk ∧ slot = 31) →
        s.readInput t slot = ⟨(fr.get slot).sample,
          match (fr.get slot).qual with
          | .fourth => .fault
          | q => q⟩)) ∧
    (∀ t : Term, s.termFails t = true ↔ (s.readInput t.trunk t.slot).qual = .fault) ∧
    (∀ (t : Term) (a : Alternate),
      (r.state = .alternate ∨ r.state = .restoring → s.trafficSlot (.route t (some a)) r = s.termValue a.term) ∧
      (r.state = .primary ∨ r.state = .failing → s.trafficSlot (.route t (some a)) r = s.termValue t)) ∧
    s.trafficSlot .off r = ⟨0, .idle⟩ ∧
    (∀ x, s.trafficSlot (.fixed x .idle) r = ⟨x, .idle⟩ ∧ s.trafficSlot (.fixed x .data) r = ⟨x, .data⟩) ∧
    (∀ t : Term, s.trafficSlot (.route t none) r = s.termValue t) ∧
    (∀ ts : List Term,
      let values := ts.map s.termValue
      let sum : Int := ((values.filter fun v => v.qual == .data).map fun v => v.sample.toInt).sum
      let slot := s.trafficSlot (.mix ts) r
      ((∃ v ∈ values, v.qual = .data) → slot.qual = .data ∧ slot.sample.toInt = max (-32768) (min 32767 sum)) ∧
      ((∀ v ∈ values, v.qual ≠ .data) → (∃ v ∈ values, v.qual = .fault) → slot = ⟨0, .fault⟩) ∧
      ((∀ v ∈ values, v.qual = .idle) → slot = ⟨0, .idle⟩) ∧
      (∀ v ∈ values, v.qual = .data ∨ v.qual = .idle ∨ v.qual = .fault) ∧
      (s.mixClips (.mix ts) = true ↔ sum < -32768 ∨ 32767 < sum))

/-- A frame the part sends reads back: 612 bits, the pattern, the count, FET and FB in their places, the slots as they
were, spare bits 0, and a check, over the 594 bits of header and slots, that passes (R39 to R43, R84, R183). -/
def Obligations.SentFrameReadsBack : Prop :=
  ∀ (count : BitVec 4) (fet fb : Bool) (slots : Table 32 SlotRecord),
    let f := sentFrame count fet fb slots
    (frameBits f).length = 612 ∧ (frameBits f).take 12 = alignmentBits ∧
    (coveredBits f.header f.slots).length = 594 ∧
    headerPattern f.header = 0xD2B ∧ headerCount f.header = count ∧ headerFet f.header = fet ∧
    headerFb f.header = fb ∧ frameRecord f true = slots ∧ f.trailer.extractLsb' 0 2 = 0 ∧
    trailerCheck f.trailer = crc (coveredBits f.header f.slots) ∧ checkPasses f = true

/-! ### Trunk receivers (R86 to R98) -/

/-- PATTERN_FOUND and VERIFY_BOUNDARY: SEARCH takes the first position with the pattern as candidate; VERIFY counts the
boundaries that show it, locks at the third with the effects of the entry to LOCKED, and at one without it searches again
from the position after the candidate, held positions first (R88, R89). The bits as operands with the boundary not yet
reached, a position that is no longer held taken as one without the pattern (log entry 10), and a command in another
alignment state (log entry 4), are the model's choice. -/
def Obligations.SearchAndVerifyFindAlignment : Prop :=
  ∀ (s : State) (t : Trunk) (line : List Bool), s.resetHeld = false →
    (s.receiver t).held.length ≤ (s.receiver t).received →
    let r := s.receiver t
    let held := r.held ++ line
    let n := r.received + line.length
    let r' := taken r line
    (r.align = .search → r.signalPresent = true →
      (∀ pos, r.testFrom ≤ pos → patternStands held n pos →
        (∀ q, r.testFrom ≤ q → q < pos → ¬ patternStands held n q) →
        exec (.patternFound t line) s = .next (s.setReceiver t { r' with align := .verify pos 1 })) ∧
      ((∀ q, r.testFrom ≤ q → ¬ patternStands held n q) →
        exec (.patternFound t line) s =
          .next (s.setReceiver t { r' with testFrom := max r.testFrom (n - 11) }))) ∧
    ((r.align ≠ .search ∨ r.signalPresent = false) → exec (.patternFound t line) s = .next s) ∧
    (∀ c k, r.align = .verify c k →
      let pos := c + 612 * k
      (n < pos + 12 → exec (.verifyBoundary t line) s = .next (s.setReceiver t r')) ∧
      (patternStands held n pos → k < 2 →
        exec (.verifyBoundary t line) s = .next (s.setReceiver t { r' with align := .verify c (k + 1) })) ∧
      (patternStands held n pos → 2 ≤ k →
        exec (.verifyBoundary t line) s =
          .next ((((s.setReceiver t { r' with align := .locked pos 0 none }).setStore t ⟨.priming, [], none⟩).withTiming
            { s.timing with delivered := s.timing.delivered.set t 0 }).raise .lockGained (BitVec.ofNat 16 t.val))) ∧
      (pos + 12 ≤ n → ¬ patternStands held n pos →
        (∀ q, c < q → patternStands held n q → (∀ q', c < q' → q' < q → ¬ patternStands held n q') →
          exec (.verifyBoundary t line) s =
            .next (s.setReceiver t { r' with align := .verify q 1, testFrom := c + 1 })) ∧
        ((∀ q, c < q → ¬ patternStands held n q) →
          exec (.verifyBoundary t line) s =
            .next (s.setReceiver t { r' with align := .search, testFrom := max (c + 1) (n - 11) })))) ∧
    ((∀ c k, r.align ≠ .verify c k) → exec (.verifyBoundary t line) s = .next s)

/-- LOCKED_BOUNDARY, SIGNAL_LOSS and SIGNAL_RETURN: a boundary with the pattern clears the miss count, one without it
counts, the fourth in a row loses LOCKED; a signal loss takes SEARCH, VERIFY and LOCKED to SEARCH, LOCKED with the
effects of a lost lock; testing begins again at the next transition (R90 to R92). The bits and positions of a boundary,
and a command in another state, are the model's choice, log entries 10 and 4. What a lost lock does to the source of starts
is its reading, log entry 16: a trunk that is the source loses a start it has owed, and one that a too-soon first delivery
has stopped gives way to a timer that stays stopped. -/
def Obligations.MissesAndSignalLossEndAlignment : Prop :=
  ∀ (s : State) (t : Trunk), s.resetHeld = false →
    let r := s.receiver t
    (∀ c miss rem (window : BitVec 12), r.align = .locked c miss rem →
      let r' := taken r (bitsOf window)
      (window = 0xD2B → exec (.lockedBoundary t window) s =
        .next (s.setReceiver t { r' with align := .locked (c + 612) 0 rem })) ∧
      (window ≠ 0xD2B → miss < 3 → exec (.lockedBoundary t window) s =
        .next (s.setReceiver t { r' with align := .locked (c + 612) (miss + 1) rem })) ∧
      (window ≠ 0xD2B → 3 ≤ miss → ∃ u, exec (.lockedBoundary t window) s = .next u ∧
        lostLock s u t { r' with align := .search, testFrom := c + 613 })) ∧
    (∀ window, (∀ c miss rem, r.align ≠ .locked c miss rem) → exec (.lockedBoundary t window) s = .next s) ∧
    ((r.align = .disabled ∨ r.signalPresent = false) → exec (.signalLoss t) s = .next s) ∧
    (r.signalPresent = true → (r.align = .search ∨ ∃ c k, r.align = .verify c k) →
      exec (.signalLoss t) s = .next (s.setReceiver t { r with align := .search, signalPresent := false })) ∧
    (r.signalPresent = true → (∃ c miss rem, r.align = .locked c miss rem) →
      ∃ u, exec (.signalLoss t) s = .next u ∧
        lostLock s u t { r with align := .search, signalPresent := false }) ∧
    (r.signalPresent = false → exec (.signalReturn t) s =
      .next (s.setReceiver t { r with signalPresent := true, testFrom := r.received })) ∧
    (r.signalPresent = true → exec (.signalReturn t) s = .next s)

/-- FRAME_DELIVERY: a frame that completes in LOCKED is judged and counted in the receiver, and its record, forced to
FAULT unless it is trusted, goes to the timing unit, which counts it and evaluates the selection at the 64th; on the
management trunk to the assembler; again to the timing unit, which completes or holds back a hand-over or owes a start, by
the selection as a request that the word ends has left it; and to the store, with a drop slip if three wait. In another
state nothing is delivered (R93 to R98, R106, R107, R112, R115, R119, R120, R123, R127, R131).
The model's own: the command brings the 600 bits after the pattern (log entry 10), the header and the miss count show the
pattern (12), time passes by `elapsed` clock periods (7) and the start's delay is a free value (6), the order of the
neighbours (9), the hand-over test before a start that the timer makes at once (22), the frame outside LOCKED (4). -/
def Obligations.DeliveryReachesItsNeighbours : Prop :=
  ∀ (s : State) (t : Trunk) (f : WireFrame) (elapsed : Nat), s.resetHeld = false →
    let r := s.receiver t
    ((∀ c miss rem, r.align ≠ .locked c miss rem) → exec (.frameDelivery t f elapsed) s = .next s) ∧
    (∀ c miss rem, r.align = .locked c miss rem →
      let passes : Bool := frameCheck f.header f.slots == trailerCheck f.trailer
      let trusted : Bool := miss == 0 && headerPattern f.header == 0xD2B && passes
      let fr : FrameRecord := Table.ofFn fun i =>
        ⟨(f.slots.get i).extractLsb' 2 16,
          if trusted then Qual.ofCode ((f.slots.get i).extractLsb' 0 2) else .fault⟩
      let gap : Bool := trusted && (match rem with
        | some k => headerCount f.header != k + 1
        | none => false)
      let counted : Timing := { s.timing with
        now := s.timing.now + elapsed
        delivered := s.timing.delivered.set t (satInc 64 (s.timing.delivered.get t)) }
      let tm : Timing :=
        if s.timing.delivered.get t = 63 ∧ t ∈ s.timing.refList then
          (s.withTiming counted).evaluateReference.timing
        else counted
      let start : Nat := s.timing.now + elapsed + (Config.startDelay s.profile).val
      ∃ v x : State,
        let w := if t = s.mgmtTrunk then v.takeWord (fr.get 31) else v
        x = w.withTiming x.timing ∧
        ((∀ soon, w.timing.handOver ≠ some ⟨t, soon⟩) → w.timing.source = .trunk t → ¬ sourceStopped w.timing →
          x.timing = { w.timing with owed := some start }) ∧
        ((∀ soon, w.timing.handOver ≠ some ⟨t, soon⟩) → (w.timing.source ≠ .trunk t ∨ sourceStopped w.timing) →
          x.timing = w.timing) ∧
        (w.timing.handOver = some ⟨t, true⟩ →
          x.timing = { w.timing with source := .trunk t, handOver := none, owed := some start }) ∧
        (w.timing.handOver = some ⟨t, false⟩ → framePeriod s ≤ 2 * (start - s.timing.lastStart) →
          x.timing = { w.timing with source := .trunk t, handOver := none, owed := some start }) ∧
        (w.timing.handOver = some ⟨t, false⟩ → 2 * (start - s.timing.lastStart) < framePeriod s →
          x.timing = { w.timing with handOver := some ⟨t, true⟩, owed := none }) ∧
        ((x.store t).phase = .idle → exec (.frameDelivery t f elapsed) s = .next x) ∧
        ((x.store t).phase = .priming → (x.store t).queue = [] →
          exec (.frameDelivery t f elapsed) s = .next (x.setStore t ⟨.priming, [fr], (x.store t).current⟩)) ∧
        (∀ y, (x.store t).phase = .priming → (x.store t).queue = [y] →
          exec (.frameDelivery t f elapsed) s = .next (x.setStore t ⟨.running, [y, fr], (x.store t).current⟩)) ∧
        ((x.store t).phase = .running → (x.store t).queue.length < 3 →
          exec (.frameDelivery t f elapsed) s =
            .next (x.setStore t ⟨.running, (x.store t).queue ++ [fr], (x.store t).current⟩)) ∧
        (∀ y rest, (x.store t).phase = .running → (x.store t).queue = y :: rest → 2 ≤ rest.length →
          exec (.frameDelivery t f elapsed) s =
            .next (((x.setStore t ⟨.running, rest ++ [fr], (x.store t).current⟩).setReceiver t
              { x.receiver t with
                counters := { (x.receiver t).counters with
                  dropSlips := satInc 65535 (x.receiver t).counters.dropSlips } }).raise .slip (BitVec.ofNat 16 t.val))) ∧
        v.receiver t = { taken r ((frameBits f).drop 12) with
          align := .locked c miss (if trusted then some (headerCount f.header) else rem.map (· + 1))
          lastFet := if trusted then headerFet f.header else r.lastFet
          farInFallback := if trusted then headerFb f.header else r.farInFallback
          counters := { r.counters with
            checkErrors := if passes then r.counters.checkErrors else satInc 65535 r.counters.checkErrors
            sequenceGaps := if gap then satInc 65535 r.counters.sequenceGaps else r.counters.sequenceGaps } } ∧
        (∀ k, k ≠ t → v.receiver k = s.receiver k) ∧ v.stores = s.stores ∧ v.timing = tm ∧
        occurrences s v [.referenceChange] (fun
          | .checkError => if passes then [] else [BitVec.ofNat 16 t.val]
          | .farEndTrouble =>
              if trusted && headerFet f.header && !r.lastFet then [BitVec.ofNat 16 t.val] else []
          | _ => []) ∧
        (sameReference s.timing.state tm.state → occurrences s v [.checkError, .farEndTrouble] (fun _ => [])) ∧
        (¬ sameReference s.timing.state tm.state →
          (v.record Event.referenceChange.num).facts =
            (s.record Event.referenceChange.num).after [referenceReport tm.state]) ∧
        queueGrew s v ∧ settingsKept s v ∧
        v.map = s.map ∧ v.exchange = s.exchange ∧ v.protection = s.protection ∧ v.operation = s.operation ∧
        v.supervision = s.supervision ∧ v.straps = s.straps ∧ v.resetHeld = s.resetHeld ∧
        v.pending = s.pending)

/-! ### Messages on the management slots (R131 to R137, R147, R148) -/

/-- The receive assembler takes each word by its state (R133 to R137): the table of R133, and the tests of R136 in their
order, each rejection counted and raised as MGMT_ERROR with its cause. -/
def Obligations.AssemblerTakesWords : Prop :=
  ∀ (s : State) (w : SlotRecord),
    let goes (a : Assembler) : State := s.withChannel { s.channel with assembler := a }
    let fails (a : Assembler) (rx : RxCounters) (cause : Half) : State :=
      (s.withChannel { s.channel with assembler := a, rx := rx }).raise .mgmtError cause
    let rx := s.channel.rx
    (s.channel.assembler = .gap →
      (w.qual = .data → s.takeWord w = goes (.collect [w.sample])) ∧ (w.qual ≠ .data → s.takeWord w = s)) ∧
    (s.channel.assembler = .discard →
      (w.qual = .idle → s.takeWord w = goes .gap) ∧ (w.qual ≠ .idle → s.takeWord w = s)) ∧
    (∀ words, s.channel.assembler = .collect words →
      (w.qual = .data → words.length < 32 → s.takeWord w = goes (.collect (words ++ [w.sample]))) ∧
      (w.qual = .data → 32 ≤ words.length →
        s.takeWord w = fails .discard { rx with overlong := satInc 65535 rx.overlong } 4) ∧
      (w.qual = .fault ∨ w.qual = .fourth →
        s.takeWord w = fails .gap { rx with aborts := satInc 65535 rx.aborts } 3) ∧
      (w.qual = .idle →
        let o := wordOctets words
        let len := (byteAt o 4).toNat
        let lengthOk : Prop := 3 ≤ words.length ∧ len ≤ 56 ∧ (2 * words.length = 7 + len ∨ 2 * words.length = 8 + len)
        let checkOk : Prop := crcOctets (o.take (5 + len)) = halfAt o (5 + len)
        let kindOk : Prop := (byteAt o 0).toNat < 64
        (¬ lengthOk → s.takeWord w = fails .gap { rx with badLength := satInc 65535 rx.badLength } 0) ∧
        (lengthOk → ¬ checkOk → s.takeWord w = fails .gap { rx with badCheck := satInc 65535 rx.badCheck } 1) ∧
        (lengthOk → checkOk → ¬ kindOk →
          s.takeWord w = fails .gap { rx with badKind := satInc 65535 rx.badKind } 2) ∧
        (lengthOk → checkOk → kindOk → s.takeWord w = (goes .gap).receiveRequest
          ⟨(byteAt o 0).extractLsb' 0 4, byteAt o 1, byteAt o 2, (o.drop 5).take len, halfAt o (5 + len)⟩)))

/-- A request sent word by word to an assembler in GAP and ended by an IDLE word is the arrival of that request, with
every field as it was sent, for any status octet and any pad octet the sender chose (R131 to R133, R136, R184). It is the
arrival that a request command stands for: the model's choice, log entry 13. -/
def Obligations.RequestSentWordByWordArrives : Prop :=
  ∀ (s : State) (r : Request) (status pad : Byte), r.payload.length ≤ 56 →
    r.check = requestCheck r.unit r.seq r.code status r.payload → s.channel.assembler = .gap →
    let u := ((requestWords r status pad).foldl (fun u w => u.takeWord ⟨w, .data⟩) s).takeWord ⟨0, .idle⟩
    u = s.receiveRequest r ∧
    (∀ (i : Instr) (h : ReqHeader), bringsRequest i h r.code r.payload → h.unit = r.unit → h.seq = r.seq →
      h.check = r.check → s.resetHeld = false → exec i s = .next u)

/-- The format of a message the part sends, two octets to a word: kind and unit address, sequence, code, status, payload
length, payload, check, and a pad octet of 0 where the octets are odd in number (R132, R151, R184). The transmitter's choice
among waiting messages, the oldest of its kind, with the streak after it (R148), and what it does at an output frame start
once the word is handed: GAP ends, the next word follows, the last word is followed by GAP and makes a notice's QUEUED
record SENT unless it is detached; a chosen message leaves the queue and the room is handed out (R146, R147, R174). -/
def Obligations.TransmitterChoosesAndSends : Prop :=
  (∀ m : Message, m.payload.length ≤ 56 →
    let o := wordOctets m.words
    let len := m.payload.length
    (byteAt o 0).toNat = 64 * (match m.kind with | .response => 1 | .notice => 2) + m.unit.toNat ∧
    byteAt o 1 = m.seq ∧ byteAt o 2 = m.code ∧ (byteAt o 3).toNat = statusNumber m.status ∧
    (byteAt o 4).toNat = len ∧ (o.drop 5).take len = m.payload ∧ halfAt o (5 + len) = crcOctets (o.take (5 + len)) ∧
    2 * m.words.length = o.length ∧
    (len % 2 = 1 → o.length = 7 + len) ∧ (len % 2 = 0 → o.length = 8 + len ∧ byteAt o (7 + len) = 0)) ∧
  (∀ (q : List TxItem) (streak : Nat),
    (q = [] → State.choose q streak = none) ∧
    (∀ r rest older, q = older ++ r :: rest → r.isNotice = false → (∀ x ∈ older, x.isNotice = true) →
      ((∀ x ∈ q, x.isNotice = false) → State.choose q streak = some (r, 0)) ∧
      ((∃ x ∈ q, x.isNotice = true) → streak ≤ 3 → State.choose q streak = some (r, streak + 1))) ∧
    (∀ n rest older, q = older ++ n :: rest → n.isNotice = true → (∀ x ∈ older, x.isNotice = false) →
      ((∀ x ∈ q, x.isNotice = true) → State.choose q streak = some (n, 0)) ∧
      ((∃ x ∈ q, x.isNotice = false) → streak = 4 → State.choose q streak = some (n, 0)))) ∧
  (∀ s : State,
    let goes (t : Transmitter) : State := s.withChannel { s.channel with transmitter := t }
    (s.channel.transmitter = .gap → s.transmitStart = goes .idle) ∧
    (∀ it k a, s.channel.transmitter = .sending it k a →
      (k + 1 < it.message.words.length → s.transmitStart = goes (.sending it (k + 1) a)) ∧
      (it.message.words.length ≤ k + 1 →
        (∀ e m, it = .notice e m → a = true → (s.record e).notice = .queued →
          s.transmitStart = (goes .gap).withEvents
            { s.events with records := s.events.records.set e { s.record e with notice := .sent } }) ∧
        ((it.isNotice = false ∨ a = false ∨ ∃ e m, it = .notice e m ∧ (s.record e).notice ≠ .queued) →
          s.transmitStart = goes .gap))) ∧
    (s.channel.transmitter = .idle →
      (s.channel.txQueue = [] → s.transmitStart = s) ∧
      (∀ it streak, State.choose s.channel.txQueue s.channel.streak = some (it, streak) →
        s.transmitStart = State.handOutRoom (s.withChannel
          { s.channel with
            txQueue := s.channel.txQueue.erase it, streak := streak, transmitter := .sending it 1 it.isNotice }))))

/-! ### Invariants of every step -/

/-- Every step keeps the map well formed and the protection records in their ranges (R7, R11, R12, R45); the supervision
record and the pending operation fitting each other (R63, R71, R73, R157); and, where these fit, every protection record
off rest over a protected route of the live bank (R46). -/
def Obligations.StepKeepsMapAndControlSound : Prop :=
  (∀ s t : State, s.MapSound → step s = .next t → t.MapSound) ∧
  (∀ s t : State, s.ControlSound → step s = .next t → t.ControlSound) ∧
  (∀ s t : State, s.ControlSound → s.ProtectionSound → step s = .next t → t.ProtectionSound)

/-- Every step keeps receivers, stores, delivered-frame counts and the timing unit fitting each other, and the
management trunk enabled (R86, R101, R103, R113, R116, R120, R123). -/
def Obligations.StepKeepsTrunksSound : Prop :=
  ∀ s t : State, s.TrunksSound → step s = .next t → t.TrunksSound

/-- Every step keeps the channel within its capacities (R133, R137, R141, R144, R146), and every event record QUEUED
exactly while it has one notice of its own in the queue or in transmission (R171, R173 to R175). -/
def Obligations.StepKeepsChannelAndEventsSound : Prop :=
  (∀ s t : State, s.channel.Sound → step s = .next t → t.channel.Sound) ∧
  (∀ s t : State, s.EventsSound → step s = .next t → t.EventsSound)

/-- The state after reset is sound. -/
def Obligations.ResetStateIsSound : Prop := State.reset.Sound
end

