-- ==== Sys2Proof/Laws/Table.lean ====
section
/-!
SUPPORT. The small lemmas of Table: what each operation reads as, and when two tables are equal.
-/

namespace Sys2Proof.Table

variable {n : Nat} {α : Type}

theorem ext_get {t u : Table n α} (h : ∀ i, t.get i = u.get i) : t = u := by
  obtain ⟨l, hl⟩ := t
  obtain ⟨m, hm⟩ := u
  have : l = m := by
    apply List.ext_getElem (by rw [hl, hm])
    intro i h1 h2
    have := h ⟨i, by omega⟩
    simpa [get] using this
  subst this
  rfl

@[simp] theorem get_set_self (t : Table n α) (i : Fin n) (a : α) : (t.set i a).get i = a :=
  List.getElem_set_self _

theorem get_set_ne (t : Table n α) {i j : Fin n} (a : α) (h : j ≠ i) : (t.set i a).get j = t.get j := by
  have : i.val ≠ j.val := fun e => h (Fin.ext e.symm)
  exact List.getElem_set_ne this _

theorem get_set (t : Table n α) (i j : Fin n) (a : α) :
    (t.set i a).get j = if j = i then a else t.get j := by
  by_cases h : j = i
  · subst h
    simp
  · simp [h, get_set_ne]

@[simp] theorem get_fill (a : α) (i : Fin n) : (fill n a).get i = a :=
  List.getElem_replicate _

@[simp] theorem get_ofFn (f : Fin n → α) (i : Fin n) : (ofFn f).get i = f i :=
  List.getElem_ofFn _

@[simp] theorem set_get_self (t : Table n α) (i : Fin n) : t.set i (t.get i) = t := by
  apply ext_get
  intro j
  rw [get_set]
  split <;> simp_all

end Sys2Proof.Table
end

