-- ==== Sys2Proof/Laws/State.lean ====
section
/-!
SUPPORT. One lemma per update of State: what each field reads as after it. All are true by definition. The lemmas on
banks, trunks and roles that follow say which updates leave them.
-/

namespace Sys2Proof.Machine.State

variable (s : State)

@[simp] theorem fields_withReceivers (v : Table 4 Receiver) :
    (s.withReceivers v).pending = s.pending
    ∧ (s.withReceivers v).resetHeld = s.resetHeld
    ∧ (s.withReceivers v).straps = s.straps
    ∧ (s.withReceivers v).receivers = v
    ∧ (s.withReceivers v).stores = s.stores
    ∧ (s.withReceivers v).timing = s.timing
    ∧ (s.withReceivers v).map = s.map
    ∧ (s.withReceivers v).exchange = s.exchange
    ∧ (s.withReceivers v).protection = s.protection
    ∧ (s.withReceivers v).operation = s.operation
    ∧ (s.withReceivers v).channel = s.channel
    ∧ (s.withReceivers v).supervision = s.supervision
    ∧ (s.withReceivers v).events = s.events :=
  ⟨rfl, rfl, rfl, rfl, rfl, rfl, rfl, rfl, rfl, rfl, rfl, rfl, rfl⟩

@[simp] theorem fields_withStores (v : Table 4 Store) :
    (s.withStores v).pending = s.pending
    ∧ (s.withStores v).resetHeld = s.resetHeld
    ∧ (s.withStores v).straps = s.straps
    ∧ (s.withStores v).receivers = s.receivers
    ∧ (s.withStores v).stores = v
    ∧ (s.withStores v).timing = s.timing
    ∧ (s.withStores v).map = s.map
    ∧ (s.withStores v).exchange = s.exchange
    ∧ (s.withStores v).protection = s.protection
    ∧ (s.withStores v).operation = s.operation
    ∧ (s.withStores v).channel = s.channel
    ∧ (s.withStores v).supervision = s.supervision
    ∧ (s.withStores v).events = s.events :=
  ⟨rfl, rfl, rfl, rfl, rfl, rfl, rfl, rfl, rfl, rfl, rfl, rfl, rfl⟩

@[simp] theorem fields_withTiming (v : Timing) :
    (s.withTiming v).pending = s.pending
    ∧ (s.withTiming v).resetHeld = s.resetHeld
    ∧ (s.withTiming v).straps = s.straps
    ∧ (s.withTiming v).receivers = s.receivers
    ∧ (s.withTiming v).stores = s.stores
    ∧ (s.withTiming v).timing = v
    ∧ (s.withTiming v).map = s.map
    ∧ (s.withTiming v).exchange = s.exchange
    ∧ (s.withTiming v).protection = s.protection
    ∧ (s.withTiming v).operation = s.operation
    ∧ (s.withTiming v).channel = s.channel
    ∧ (s.withTiming v).supervision = s.supervision
    ∧ (s.withTiming v).events = s.events :=
  ⟨rfl, rfl, rfl, rfl, rfl, rfl, rfl, rfl, rfl, rfl, rfl, rfl, rfl⟩

@[simp] theorem fields_withMap (v : ConnectionMap) :
    (s.withMap v).pending = s.pending
    ∧ (s.withMap v).resetHeld = s.resetHeld
    ∧ (s.withMap v).straps = s.straps
    ∧ (s.withMap v).receivers = s.receivers
    ∧ (s.withMap v).stores = s.stores
    ∧ (s.withMap v).timing = s.timing
    ∧ (s.withMap v).map = v
    ∧ (s.withMap v).exchange = s.exchange
    ∧ (s.withMap v).protection = s.protection
    ∧ (s.withMap v).operation = s.operation
    ∧ (s.withMap v).channel = s.channel
    ∧ (s.withMap v).supervision = s.supervision
    ∧ (s.withMap v).events = s.events :=
  ⟨rfl, rfl, rfl, rfl, rfl, rfl, rfl, rfl, rfl, rfl, rfl, rfl, rfl⟩

@[simp] theorem fields_withExchange (v : Exchange) :
    (s.withExchange v).pending = s.pending
    ∧ (s.withExchange v).resetHeld = s.resetHeld
    ∧ (s.withExchange v).straps = s.straps
    ∧ (s.withExchange v).receivers = s.receivers
    ∧ (s.withExchange v).stores = s.stores
    ∧ (s.withExchange v).timing = s.timing
    ∧ (s.withExchange v).map = s.map
    ∧ (s.withExchange v).exchange = v
    ∧ (s.withExchange v).protection = s.protection
    ∧ (s.withExchange v).operation = s.operation
    ∧ (s.withExchange v).channel = s.channel
    ∧ (s.withExchange v).supervision = s.supervision
    ∧ (s.withExchange v).events = s.events :=
  ⟨rfl, rfl, rfl, rfl, rfl, rfl, rfl, rfl, rfl, rfl, rfl, rfl, rfl⟩

@[simp] theorem fields_withProtection (v : Table 128 ProtRecord) :
    (s.withProtection v).pending = s.pending
    ∧ (s.withProtection v).resetHeld = s.resetHeld
    ∧ (s.withProtection v).straps = s.straps
    ∧ (s.withProtection v).receivers = s.receivers
    ∧ (s.withProtection v).stores = s.stores
    ∧ (s.withProtection v).timing = s.timing
    ∧ (s.withProtection v).map = s.map
    ∧ (s.withProtection v).exchange = s.exchange
    ∧ (s.withProtection v).protection = v
    ∧ (s.withProtection v).operation = s.operation
    ∧ (s.withProtection v).channel = s.channel
    ∧ (s.withProtection v).supervision = s.supervision
    ∧ (s.withProtection v).events = s.events :=
  ⟨rfl, rfl, rfl, rfl, rfl, rfl, rfl, rfl, rfl, rfl, rfl, rfl, rfl⟩

@[simp] theorem fields_withOperation (v : Option PendingOp) :
    (s.withOperation v).pending = s.pending
    ∧ (s.withOperation v).resetHeld = s.resetHeld
    ∧ (s.withOperation v).straps = s.straps
    ∧ (s.withOperation v).receivers = s.receivers
    ∧ (s.withOperation v).stores = s.stores
    ∧ (s.withOperation v).timing = s.timing
    ∧ (s.withOperation v).map = s.map
    ∧ (s.withOperation v).exchange = s.exchange
    ∧ (s.withOperation v).protection = s.protection
    ∧ (s.withOperation v).operation = v
    ∧ (s.withOperation v).channel = s.channel
    ∧ (s.withOperation v).supervision = s.supervision
    ∧ (s.withOperation v).events = s.events :=
  ⟨rfl, rfl, rfl, rfl, rfl, rfl, rfl, rfl, rfl, rfl, rfl, rfl, rfl⟩

@[simp] theorem fields_withChannel (v : Channel) :
    (s.withChannel v).pending = s.pending
    ∧ (s.withChannel v).resetHeld = s.resetHeld
    ∧ (s.withChannel v).straps = s.straps
    ∧ (s.withChannel v).receivers = s.receivers
    ∧ (s.withChannel v).stores = s.stores
    ∧ (s.withChannel v).timing = s.timing
    ∧ (s.withChannel v).map = s.map
    ∧ (s.withChannel v).exchange = s.exchange
    ∧ (s.withChannel v).protection = s.protection
    ∧ (s.withChannel v).operation = s.operation
    ∧ (s.withChannel v).channel = v
    ∧ (s.withChannel v).supervision = s.supervision
    ∧ (s.withChannel v).events = s.events :=
  ⟨rfl, rfl, rfl, rfl, rfl, rfl, rfl, rfl, rfl, rfl, rfl, rfl, rfl⟩

@[simp] theorem fields_withSupervision (v : Supervision) :
    (s.withSupervision v).pending = s.pending
    ∧ (s.withSupervision v).resetHeld = s.resetHeld
    ∧ (s.withSupervision v).straps = s.straps
    ∧ (s.withSupervision v).receivers = s.receivers
    ∧ (s.withSupervision v).stores = s.stores
    ∧ (s.withSupervision v).timing = s.timing
    ∧ (s.withSupervision v).map = s.map
    ∧ (s.withSupervision v).exchange = s.exchange
    ∧ (s.withSupervision v).protection = s.protection
    ∧ (s.withSupervision v).operation = s.operation
    ∧ (s.withSupervision v).channel = s.channel
    ∧ (s.withSupervision v).supervision = v
    ∧ (s.withSupervision v).events = s.events :=
  ⟨rfl, rfl, rfl, rfl, rfl, rfl, rfl, rfl, rfl, rfl, rfl, rfl, rfl⟩

@[simp] theorem fields_withEvents (v : EventUnit) :
    (s.withEvents v).pending = s.pending
    ∧ (s.withEvents v).resetHeld = s.resetHeld
    ∧ (s.withEvents v).straps = s.straps
    ∧ (s.withEvents v).receivers = s.receivers
    ∧ (s.withEvents v).stores = s.stores
    ∧ (s.withEvents v).timing = s.timing
    ∧ (s.withEvents v).map = s.map
    ∧ (s.withEvents v).exchange = s.exchange
    ∧ (s.withEvents v).protection = s.protection
    ∧ (s.withEvents v).operation = s.operation
    ∧ (s.withEvents v).channel = s.channel
    ∧ (s.withEvents v).supervision = s.supervision
    ∧ (s.withEvents v).events = v :=
  ⟨rfl, rfl, rfl, rfl, rfl, rfl, rfl, rfl, rfl, rfl, rfl, rfl, rfl⟩

@[simp] theorem fields_withPending (v : List Instr) :
    (s.withPending v).pending = v
    ∧ (s.withPending v).resetHeld = s.resetHeld
    ∧ (s.withPending v).straps = s.straps
    ∧ (s.withPending v).receivers = s.receivers
    ∧ (s.withPending v).stores = s.stores
    ∧ (s.withPending v).timing = s.timing
    ∧ (s.withPending v).map = s.map
    ∧ (s.withPending v).exchange = s.exchange
    ∧ (s.withPending v).protection = s.protection
    ∧ (s.withPending v).operation = s.operation
    ∧ (s.withPending v).channel = s.channel
    ∧ (s.withPending v).supervision = s.supervision
    ∧ (s.withPending v).events = s.events :=
  ⟨rfl, rfl, rfl, rfl, rfl, rfl, rfl, rfl, rfl, rfl, rfl, rfl, rfl⟩

@[simp] theorem withReceivers_self : s.withReceivers s.receivers = s := rfl

@[simp] theorem withStores_self : s.withStores s.stores = s := rfl

@[simp] theorem withTiming_self : s.withTiming s.timing = s := rfl

@[simp] theorem withMap_self : s.withMap s.map = s := rfl

@[simp] theorem withExchange_self : s.withExchange s.exchange = s := rfl

@[simp] theorem withProtection_self : s.withProtection s.protection = s := rfl

@[simp] theorem withOperation_self : s.withOperation s.operation = s := rfl

@[simp] theorem withChannel_self : s.withChannel s.channel = s := rfl

@[simp] theorem withSupervision_self : s.withSupervision s.supervision = s := rfl

@[simp] theorem withEvents_self : s.withEvents s.events = s := rfl

@[simp] theorem withPending_self : s.withPending s.pending = s := rfl

@[simp] theorem withReceivers_withReceivers (v w : Table 4 Receiver) : (s.withReceivers v).withReceivers w = s.withReceivers w := rfl

@[simp] theorem withStores_withStores (v w : Table 4 Store) : (s.withStores v).withStores w = s.withStores w := rfl

@[simp] theorem withTiming_withTiming (v w : Timing) : (s.withTiming v).withTiming w = s.withTiming w := rfl

@[simp] theorem withMap_withMap (v w : ConnectionMap) : (s.withMap v).withMap w = s.withMap w := rfl

@[simp] theorem withExchange_withExchange (v w : Exchange) : (s.withExchange v).withExchange w = s.withExchange w := rfl

@[simp] theorem withProtection_withProtection (v w : Table 128 ProtRecord) : (s.withProtection v).withProtection w = s.withProtection w := rfl

@[simp] theorem withOperation_withOperation (v w : Option PendingOp) : (s.withOperation v).withOperation w = s.withOperation w := rfl

@[simp] theorem withChannel_withChannel (v w : Channel) : (s.withChannel v).withChannel w = s.withChannel w := rfl

@[simp] theorem withSupervision_withSupervision (v w : Supervision) : (s.withSupervision v).withSupervision w = s.withSupervision w := rfl

@[simp] theorem withEvents_withEvents (v w : EventUnit) : (s.withEvents v).withEvents w = s.withEvents w := rfl

@[simp] theorem withPending_withPending (v w : List Instr) : (s.withPending v).withPending w = s.withPending w := rfl

/-! ### Banks -/

@[simp] theorem bank_withReceivers (v : Table 4 Receiver) (b : BankId) : (s.withReceivers v).bank b = s.bank b := by
  cases b <;> rfl

@[simp] theorem roles_withReceivers (v : Table 4 Receiver) :
    (s.withReceivers v).currentBank = s.currentBank ∧ (s.withReceivers v).shadowBank = s.shadowBank :=
  ⟨rfl, rfl⟩

@[simp] theorem bank_withStores (v : Table 4 Store) (b : BankId) : (s.withStores v).bank b = s.bank b := by
  cases b <;> rfl

@[simp] theorem roles_withStores (v : Table 4 Store) :
    (s.withStores v).currentBank = s.currentBank ∧ (s.withStores v).shadowBank = s.shadowBank :=
  ⟨rfl, rfl⟩

@[simp] theorem bank_withTiming (v : Timing) (b : BankId) : (s.withTiming v).bank b = s.bank b := by
  cases b <;> rfl

@[simp] theorem roles_withTiming (v : Timing) :
    (s.withTiming v).currentBank = s.currentBank ∧ (s.withTiming v).shadowBank = s.shadowBank :=
  ⟨rfl, rfl⟩

@[simp] theorem bank_withExchange (v : Exchange) (b : BankId) : (s.withExchange v).bank b = s.bank b := by
  cases b <;> rfl

@[simp] theorem roles_withExchange (v : Exchange) :
    (s.withExchange v).currentBank = s.currentBank ∧ (s.withExchange v).shadowBank = s.shadowBank :=
  ⟨rfl, rfl⟩

@[simp] theorem bank_withProtection (v : Table 128 ProtRecord) (b : BankId) : (s.withProtection v).bank b = s.bank b := by
  cases b <;> rfl

@[simp] theorem roles_withProtection (v : Table 128 ProtRecord) :
    (s.withProtection v).currentBank = s.currentBank ∧ (s.withProtection v).shadowBank = s.shadowBank :=
  ⟨rfl, rfl⟩

@[simp] theorem bank_withOperation (v : Option PendingOp) (b : BankId) : (s.withOperation v).bank b = s.bank b := by
  cases b <;> rfl

@[simp] theorem roles_withOperation (v : Option PendingOp) :
    (s.withOperation v).currentBank = s.currentBank ∧ (s.withOperation v).shadowBank = s.shadowBank :=
  ⟨rfl, rfl⟩

@[simp] theorem bank_withChannel (v : Channel) (b : BankId) : (s.withChannel v).bank b = s.bank b := by
  cases b <;> rfl

@[simp] theorem roles_withChannel (v : Channel) :
    (s.withChannel v).currentBank = s.currentBank ∧ (s.withChannel v).shadowBank = s.shadowBank :=
  ⟨rfl, rfl⟩

@[simp] theorem bank_withSupervision (v : Supervision) (b : BankId) : (s.withSupervision v).bank b = s.bank b := by
  cases b <;> rfl

@[simp] theorem roles_withSupervision (v : Supervision) :
    (s.withSupervision v).currentBank = s.currentBank ∧ (s.withSupervision v).shadowBank = s.shadowBank :=
  ⟨rfl, rfl⟩

@[simp] theorem bank_withEvents (v : EventUnit) (b : BankId) : (s.withEvents v).bank b = s.bank b := by
  cases b <;> rfl

@[simp] theorem roles_withEvents (v : EventUnit) :
    (s.withEvents v).currentBank = s.currentBank ∧ (s.withEvents v).shadowBank = s.shadowBank :=
  ⟨rfl, rfl⟩

@[simp] theorem bank_withPending (v : List Instr) (b : BankId) : (s.withPending v).bank b = s.bank b := by
  cases b <;> rfl

@[simp] theorem roles_withPending (v : List Instr) :
    (s.withPending v).currentBank = s.currentBank ∧ (s.withPending v).shadowBank = s.shadowBank :=
  ⟨rfl, rfl⟩

@[simp] theorem straps_withReceivers (v : Table 4 Receiver) :
    (s.withReceivers v).mgmtTrunk = s.mgmtTrunk ∧ (s.withReceivers v).reserved = s.reserved ∧ (s.withReceivers v).profile = s.profile :=
  ⟨rfl, rfl, rfl⟩

@[simp] theorem straps_withStores (v : Table 4 Store) :
    (s.withStores v).mgmtTrunk = s.mgmtTrunk ∧ (s.withStores v).reserved = s.reserved ∧ (s.withStores v).profile = s.profile :=
  ⟨rfl, rfl, rfl⟩

@[simp] theorem straps_withTiming (v : Timing) :
    (s.withTiming v).mgmtTrunk = s.mgmtTrunk ∧ (s.withTiming v).reserved = s.reserved ∧ (s.withTiming v).profile = s.profile :=
  ⟨rfl, rfl, rfl⟩

@[simp] theorem straps_withMap (v : ConnectionMap) :
    (s.withMap v).mgmtTrunk = s.mgmtTrunk ∧ (s.withMap v).reserved = s.reserved ∧ (s.withMap v).profile = s.profile :=
  ⟨rfl, rfl, rfl⟩

@[simp] theorem straps_withExchange (v : Exchange) :
    (s.withExchange v).mgmtTrunk = s.mgmtTrunk ∧ (s.withExchange v).reserved = s.reserved ∧ (s.withExchange v).profile = s.profile :=
  ⟨rfl, rfl, rfl⟩

@[simp] theorem straps_withProtection (v : Table 128 ProtRecord) :
    (s.withProtection v).mgmtTrunk = s.mgmtTrunk ∧ (s.withProtection v).reserved = s.reserved ∧ (s.withProtection v).profile = s.profile :=
  ⟨rfl, rfl, rfl⟩

@[simp] theorem straps_withOperation (v : Option PendingOp) :
    (s.withOperation v).mgmtTrunk = s.mgmtTrunk ∧ (s.withOperation v).reserved = s.reserved ∧ (s.withOperation v).profile = s.profile :=
  ⟨rfl, rfl, rfl⟩

@[simp] theorem straps_withChannel (v : Channel) :
    (s.withChannel v).mgmtTrunk = s.mgmtTrunk ∧ (s.withChannel v).reserved = s.reserved ∧ (s.withChannel v).profile = s.profile :=
  ⟨rfl, rfl, rfl⟩

@[simp] theorem straps_withSupervision (v : Supervision) :
    (s.withSupervision v).mgmtTrunk = s.mgmtTrunk ∧ (s.withSupervision v).reserved = s.reserved ∧ (s.withSupervision v).profile = s.profile :=
  ⟨rfl, rfl, rfl⟩

@[simp] theorem straps_withEvents (v : EventUnit) :
    (s.withEvents v).mgmtTrunk = s.mgmtTrunk ∧ (s.withEvents v).reserved = s.reserved ∧ (s.withEvents v).profile = s.profile :=
  ⟨rfl, rfl, rfl⟩

@[simp] theorem straps_withPending (v : List Instr) :
    (s.withPending v).mgmtTrunk = s.mgmtTrunk ∧ (s.withPending v).reserved = s.reserved ∧ (s.withPending v).profile = s.profile :=
  ⟨rfl, rfl, rfl⟩

@[simp] theorem isLapsed_withReceivers (v : Table 4 Receiver) : (s.withReceivers v).isLapsed = s.isLapsed := rfl

@[simp] theorem liveBank_withReceivers (v : Table 4 Receiver) : (s.withReceivers v).liveBank = s.liveBank := rfl

@[simp] theorem isLapsed_withStores (v : Table 4 Store) : (s.withStores v).isLapsed = s.isLapsed := rfl

@[simp] theorem liveBank_withStores (v : Table 4 Store) : (s.withStores v).liveBank = s.liveBank := rfl

@[simp] theorem isLapsed_withTiming (v : Timing) : (s.withTiming v).isLapsed = s.isLapsed := rfl

@[simp] theorem liveBank_withTiming (v : Timing) : (s.withTiming v).liveBank = s.liveBank := rfl

@[simp] theorem isLapsed_withMap (v : ConnectionMap) : (s.withMap v).isLapsed = s.isLapsed := rfl

@[simp] theorem isLapsed_withExchange (v : Exchange) : (s.withExchange v).isLapsed = s.isLapsed := rfl

@[simp] theorem liveBank_withExchange (v : Exchange) : (s.withExchange v).liveBank = s.liveBank := rfl

@[simp] theorem isLapsed_withProtection (v : Table 128 ProtRecord) : (s.withProtection v).isLapsed = s.isLapsed := rfl

@[simp] theorem liveBank_withProtection (v : Table 128 ProtRecord) : (s.withProtection v).liveBank = s.liveBank := rfl

@[simp] theorem isLapsed_withOperation (v : Option PendingOp) : (s.withOperation v).isLapsed = s.isLapsed := rfl

@[simp] theorem liveBank_withOperation (v : Option PendingOp) : (s.withOperation v).liveBank = s.liveBank := rfl

@[simp] theorem isLapsed_withChannel (v : Channel) : (s.withChannel v).isLapsed = s.isLapsed := rfl

@[simp] theorem liveBank_withChannel (v : Channel) : (s.withChannel v).liveBank = s.liveBank := rfl

@[simp] theorem isLapsed_withEvents (v : EventUnit) : (s.withEvents v).isLapsed = s.isLapsed := rfl

@[simp] theorem liveBank_withEvents (v : EventUnit) : (s.withEvents v).liveBank = s.liveBank := rfl

@[simp] theorem isLapsed_withPending (v : List Instr) : (s.withPending v).isLapsed = s.isLapsed := rfl

@[simp] theorem liveBank_withPending (v : List Instr) : (s.withPending v).liveBank = s.liveBank := rfl

@[simp] theorem store_withReceivers (v : Table 4 Receiver) (t : Trunk) : (s.withReceivers v).store t = s.store t := rfl

@[simp] theorem receiver_withStores (v : Table 4 Store) (t : Trunk) : (s.withStores v).receiver t = s.receiver t := rfl

@[simp] theorem receiver_withTiming (v : Timing) (t : Trunk) : (s.withTiming v).receiver t = s.receiver t := rfl

@[simp] theorem store_withTiming (v : Timing) (t : Trunk) : (s.withTiming v).store t = s.store t := rfl

@[simp] theorem receiver_withMap (v : ConnectionMap) (t : Trunk) : (s.withMap v).receiver t = s.receiver t := rfl

@[simp] theorem store_withMap (v : ConnectionMap) (t : Trunk) : (s.withMap v).store t = s.store t := rfl

@[simp] theorem receiver_withExchange (v : Exchange) (t : Trunk) : (s.withExchange v).receiver t = s.receiver t := rfl

@[simp] theorem store_withExchange (v : Exchange) (t : Trunk) : (s.withExchange v).store t = s.store t := rfl

@[simp] theorem receiver_withProtection (v : Table 128 ProtRecord) (t : Trunk) : (s.withProtection v).receiver t = s.receiver t := rfl

@[simp] theorem store_withProtection (v : Table 128 ProtRecord) (t : Trunk) : (s.withProtection v).store t = s.store t := rfl

@[simp] theorem receiver_withOperation (v : Option PendingOp) (t : Trunk) : (s.withOperation v).receiver t = s.receiver t := rfl

@[simp] theorem store_withOperation (v : Option PendingOp) (t : Trunk) : (s.withOperation v).store t = s.store t := rfl

@[simp] theorem receiver_withChannel (v : Channel) (t : Trunk) : (s.withChannel v).receiver t = s.receiver t := rfl

@[simp] theorem store_withChannel (v : Channel) (t : Trunk) : (s.withChannel v).store t = s.store t := rfl

@[simp] theorem receiver_withSupervision (v : Supervision) (t : Trunk) : (s.withSupervision v).receiver t = s.receiver t := rfl

@[simp] theorem store_withSupervision (v : Supervision) (t : Trunk) : (s.withSupervision v).store t = s.store t := rfl

@[simp] theorem receiver_withEvents (v : EventUnit) (t : Trunk) : (s.withEvents v).receiver t = s.receiver t := rfl

@[simp] theorem store_withEvents (v : EventUnit) (t : Trunk) : (s.withEvents v).store t = s.store t := rfl

@[simp] theorem receiver_withPending (v : List Instr) (t : Trunk) : (s.withPending v).receiver t = s.receiver t := rfl

@[simp] theorem store_withPending (v : List Instr) (t : Trunk) : (s.withPending v).store t = s.store t := rfl

theorem bank_setBank (b c : BankId) (v : Bank) : (s.setBank b v).bank c = if c = b then v else s.bank c := by
  cases b <;> cases c <;> rfl

@[simp] theorem bank_setBank_self (b : BankId) (v : Bank) : (s.setBank b v).bank b = v := by
  simp [bank_setBank]

/-- Replacing a bank changes the map only. -/
theorem setBank_eq_withMap (b : BankId) (v : Bank) : s.setBank b v = s.withMap (s.setBank b v).map := by
  cases b <;> rfl

@[simp] theorem setBank_roles (b : BankId) (v : Bank) :
    (s.setBank b v).map.current = s.map.current ∧ (s.setBank b v).map.frozen = s.map.frozen := by
  cases b <;> exact ⟨rfl, rfl⟩

/-! ### Receivers and stores -/

theorem receiver_setReceiver (t u : Trunk) (r : Receiver) :
    (s.setReceiver t r).receiver u = if u = t then r else s.receiver u :=
  Table.get_set ..

theorem store_setStore (t u : Trunk) (v : Store) :
    (s.setStore t v).store u = if u = t then v else s.store u :=
  Table.get_set ..

@[simp] theorem receiver_setReceiver_self (t : Trunk) (r : Receiver) : (s.setReceiver t r).receiver t = r := by
  simp [receiver_setReceiver]

@[simp] theorem store_setStore_self (t : Trunk) (v : Store) : (s.setStore t v).store t = v := by
  simp [store_setStore]

@[simp] theorem store_setReceiver (t u : Trunk) (r : Receiver) : (s.setReceiver t r).store u = s.store u := rfl

@[simp] theorem receiver_setStore (t u : Trunk) (v : Store) : (s.setStore t v).receiver u = s.receiver u := rfl

/-! ### What replacing one bank, receiver or store leaves -/

@[simp] theorem fields_setBank (b : BankId) (v : Bank) :
    (s.setBank b v).pending = s.pending
    ∧ (s.setBank b v).resetHeld = s.resetHeld
    ∧ (s.setBank b v).straps = s.straps
    ∧ (s.setBank b v).receivers = s.receivers
    ∧ (s.setBank b v).stores = s.stores
    ∧ (s.setBank b v).timing = s.timing
    ∧ (s.setBank b v).exchange = s.exchange
    ∧ (s.setBank b v).protection = s.protection
    ∧ (s.setBank b v).operation = s.operation
    ∧ (s.setBank b v).channel = s.channel
    ∧ (s.setBank b v).supervision = s.supervision
    ∧ (s.setBank b v).events = s.events := by
  cases b <;> exact ⟨rfl, rfl, rfl, rfl, rfl, rfl, rfl, rfl, rfl, rfl, rfl, rfl⟩

@[simp] theorem fields_setReceiver (t : Trunk) (r : Receiver) :
    (s.setReceiver t r).pending = s.pending
    ∧ (s.setReceiver t r).resetHeld = s.resetHeld
    ∧ (s.setReceiver t r).straps = s.straps
    ∧ (s.setReceiver t r).stores = s.stores
    ∧ (s.setReceiver t r).timing = s.timing
    ∧ (s.setReceiver t r).map = s.map
    ∧ (s.setReceiver t r).exchange = s.exchange
    ∧ (s.setReceiver t r).protection = s.protection
    ∧ (s.setReceiver t r).operation = s.operation
    ∧ (s.setReceiver t r).channel = s.channel
    ∧ (s.setReceiver t r).supervision = s.supervision
    ∧ (s.setReceiver t r).events = s.events :=
  ⟨rfl, rfl, rfl, rfl, rfl, rfl, rfl, rfl, rfl, rfl, rfl, rfl⟩

@[simp] theorem fields_setStore (t : Trunk) (v : Store) :
    (s.setStore t v).pending = s.pending
    ∧ (s.setStore t v).resetHeld = s.resetHeld
    ∧ (s.setStore t v).straps = s.straps
    ∧ (s.setStore t v).receivers = s.receivers
    ∧ (s.setStore t v).timing = s.timing
    ∧ (s.setStore t v).map = s.map
    ∧ (s.setStore t v).exchange = s.exchange
    ∧ (s.setStore t v).protection = s.protection
    ∧ (s.setStore t v).operation = s.operation
    ∧ (s.setStore t v).channel = s.channel
    ∧ (s.setStore t v).supervision = s.supervision
    ∧ (s.setStore t v).events = s.events :=
  ⟨rfl, rfl, rfl, rfl, rfl, rfl, rfl, rfl, rfl, rfl, rfl, rfl⟩

@[simp] theorem bank_setReceiver (t : Trunk) (r : Receiver) (b : BankId) : (s.setReceiver t r).bank b = s.bank b := by
  cases b <;> rfl

@[simp] theorem bank_setStore (t : Trunk) (v : Store) (b : BankId) : (s.setStore t v).bank b = s.bank b := by
  cases b <;> rfl

@[simp] theorem receiver_setBank (b : BankId) (v : Bank) (t : Trunk) : (s.setBank b v).receiver t = s.receiver t := by
  cases b <;> rfl

@[simp] theorem store_setBank (b : BankId) (v : Bank) (t : Trunk) : (s.setBank b v).store t = s.store t := by
  cases b <;> rfl

end Sys2Proof.Machine.State
end

