-- ==== Sys2Proof/Laws/Notices.lean ====
section
/-!
SUPPORT. Everything an occurrence and an offering of notices can do: they lengthen the transmit queue by notices and
change event records, and leave every other item of the part.
-/

namespace Sys2Proof.Machine

/-- `t` differs from `s` by notices at the tail of the transmit queue and by the event unit only. -/
def NoticesOnly (s t : State) : Prop :=
  ∃ l e, (∀ it ∈ l, it.isNotice = true) ∧
    t = (s.withChannel { s.channel with txQueue := s.channel.txQueue ++ l }).withEvents e

namespace NoticesOnly

theorem refl (s : State) : NoticesOnly s s := by
  refine ⟨[], s.events, by simp, ?_⟩
  rw [List.append_nil]
  rfl

theorem trans {s t u : State} (h : NoticesOnly s t) (k : NoticesOnly t u) : NoticesOnly s u := by
  obtain ⟨l, e, hl, rfl⟩ := h
  obtain ⟨m, f, hm, rfl⟩ := k
  refine ⟨l ++ m, f, ?_, ?_⟩
  · intro it hit
    rcases List.mem_append.mp hit with h | h
    · exact hl it h
    · exact hm it h
  · simp only [State.fields_withChannel, State.fields_withEvents, List.append_assoc]
    rfl

theorem events (s : State) (e : EventUnit) : NoticesOnly s (s.withEvents e) :=
  ⟨[], e, by simp, by rw [List.append_nil]; rfl⟩

/-- What the items outside the channel and the event unit read as. -/
theorem fields {s t : State} (h : NoticesOnly s t) :
    t.pending = s.pending ∧ t.resetHeld = s.resetHeld ∧ t.straps = s.straps ∧ t.receivers = s.receivers
    ∧ t.stores = s.stores ∧ t.timing = s.timing ∧ t.map = s.map ∧ t.exchange = s.exchange
    ∧ t.protection = s.protection ∧ t.operation = s.operation ∧ t.supervision = s.supervision := by
  obtain ⟨l, e, _, rfl⟩ := h
  simp

/-- What the channel reads as: only the transmit queue differs. -/
theorem channel {s t : State} (h : NoticesOnly s t) :
    ∃ l, (∀ it ∈ l, it.isNotice = true) ∧ t.channel = { s.channel with txQueue := s.channel.txQueue ++ l } := by
  obtain ⟨l, e, hl, rfl⟩ := h
  exact ⟨l, hl, by simp⟩

theorem bank {s t : State} (h : NoticesOnly s t) (b : BankId) : t.bank b = s.bank b := by
  obtain ⟨l, e, _, rfl⟩ := h
  simp

theorem liveBank {s t : State} (h : NoticesOnly s t) : t.liveBank = s.liveBank := by
  obtain ⟨l, e, _, rfl⟩ := h
  simp

theorem receiver {s t : State} (h : NoticesOnly s t) (i : Trunk) : t.receiver i = s.receiver i := by
  obtain ⟨l, e, _, rfl⟩ := h
  simp

theorem store {s t : State} (h : NoticesOnly s t) (i : Trunk) : t.store i = s.store i := by
  obtain ⟨l, e, _, rfl⟩ := h
  simp

end NoticesOnly

namespace State

theorem noticesOnly_takeNotice (s : State) (e : Fin 16) : NoticesOnly s (s.takeNotice e) :=
  ⟨[.notice e (s.noticeOf e)], _, by simp [TxItem.isNotice], rfl⟩

theorem noticesOnly_offerFrom (es : List (Fin 16)) (s : State) : NoticesOnly s (offerFrom es s) := by
  induction es generalizing s with
  | nil => exact .refl s
  | cons e es ih =>
    simp only [offerFrom]
    split
    · split
      · exact (noticesOnly_takeNotice s e).trans (ih _)
      · exact .refl s
    · exact ih s

theorem noticesOnly_offerNotices (s : State) : NoticesOnly s s.offerNotices := noticesOnly_offerFrom _ s

theorem noticesOnly_raise (s : State) (ev : Event) (d : Half) : NoticesOnly s (s.raise ev d) :=
  (NoticesOnly.events s _).trans (noticesOnly_offerNotices _)

theorem noticesOnly_raiseAll (l : List (Event × Half)) (s : State) : NoticesOnly s (s.raiseAll l) := by
  induction l generalizing s with
  | nil => exact .refl s
  | cons x l ih => exact (noticesOnly_raise s x.1 x.2).trans (ih _)

/-! ### What occurrences and offerings leave -/

@[simp] theorem fields_raise (s : State) (ev : Event) (d : Half) :
    (s.raise ev d).pending = s.pending
    ∧ (s.raise ev d).resetHeld = s.resetHeld
    ∧ (s.raise ev d).straps = s.straps
    ∧ (s.raise ev d).receivers = s.receivers
    ∧ (s.raise ev d).stores = s.stores
    ∧ (s.raise ev d).timing = s.timing
    ∧ (s.raise ev d).map = s.map
    ∧ (s.raise ev d).exchange = s.exchange
    ∧ (s.raise ev d).protection = s.protection
    ∧ (s.raise ev d).operation = s.operation
    ∧ (s.raise ev d).supervision = s.supervision :=
  (noticesOnly_raise s ev d).fields

@[simp] theorem bank_raise (s : State) (ev : Event) (d : Half) (b : BankId) : (s.raise ev d).bank b = s.bank b := (noticesOnly_raise s ev d).bank b

@[simp] theorem liveBank_raise (s : State) (ev : Event) (d : Half) : (s.raise ev d).liveBank = s.liveBank := (noticesOnly_raise s ev d).liveBank

@[simp] theorem receiver_raise (s : State) (ev : Event) (d : Half) (t : Trunk) : (s.raise ev d).receiver t = s.receiver t := (noticesOnly_raise s ev d).receiver t

@[simp] theorem store_raise (s : State) (ev : Event) (d : Half) (t : Trunk) : (s.raise ev d).store t = s.store t := (noticesOnly_raise s ev d).store t

@[simp] theorem fields_raiseAll (s : State) (l : List (Event × Half)) :
    (s.raiseAll l).pending = s.pending
    ∧ (s.raiseAll l).resetHeld = s.resetHeld
    ∧ (s.raiseAll l).straps = s.straps
    ∧ (s.raiseAll l).receivers = s.receivers
    ∧ (s.raiseAll l).stores = s.stores
    ∧ (s.raiseAll l).timing = s.timing
    ∧ (s.raiseAll l).map = s.map
    ∧ (s.raiseAll l).exchange = s.exchange
    ∧ (s.raiseAll l).protection = s.protection
    ∧ (s.raiseAll l).operation = s.operation
    ∧ (s.raiseAll l).supervision = s.supervision :=
  (noticesOnly_raiseAll l s).fields

@[simp] theorem bank_raiseAll (s : State) (l : List (Event × Half)) (b : BankId) : (s.raiseAll l).bank b = s.bank b := (noticesOnly_raiseAll l s).bank b

@[simp] theorem liveBank_raiseAll (s : State) (l : List (Event × Half)) : (s.raiseAll l).liveBank = s.liveBank := (noticesOnly_raiseAll l s).liveBank

@[simp] theorem receiver_raiseAll (s : State) (l : List (Event × Half)) (t : Trunk) : (s.raiseAll l).receiver t = s.receiver t := (noticesOnly_raiseAll l s).receiver t

@[simp] theorem store_raiseAll (s : State) (l : List (Event × Half)) (t : Trunk) : (s.raiseAll l).store t = s.store t := (noticesOnly_raiseAll l s).store t

@[simp] theorem fields_offerNotices (s : State) :
    (s.offerNotices).pending = s.pending
    ∧ (s.offerNotices).resetHeld = s.resetHeld
    ∧ (s.offerNotices).straps = s.straps
    ∧ (s.offerNotices).receivers = s.receivers
    ∧ (s.offerNotices).stores = s.stores
    ∧ (s.offerNotices).timing = s.timing
    ∧ (s.offerNotices).map = s.map
    ∧ (s.offerNotices).exchange = s.exchange
    ∧ (s.offerNotices).protection = s.protection
    ∧ (s.offerNotices).operation = s.operation
    ∧ (s.offerNotices).supervision = s.supervision :=
  (noticesOnly_offerNotices s).fields

@[simp] theorem bank_offerNotices (s : State) (b : BankId) : (s.offerNotices).bank b = s.bank b := (noticesOnly_offerNotices s).bank b

@[simp] theorem liveBank_offerNotices (s : State) : (s.offerNotices).liveBank = s.liveBank := (noticesOnly_offerNotices s).liveBank

@[simp] theorem receiver_offerNotices (s : State) (t : Trunk) : (s.offerNotices).receiver t = s.receiver t := (noticesOnly_offerNotices s).receiver t

@[simp] theorem store_offerNotices (s : State) (t : Trunk) : (s.offerNotices).store t = s.store t := (noticesOnly_offerNotices s).store t

/-! ### Records through an update of another item -/

@[simp] theorem record_withReceivers (s : State) (v : Table 4 Receiver) (e : Fin 16) : (s.withReceivers v).record e = s.record e := rfl

@[simp] theorem record_withStores (s : State) (v : Table 4 Store) (e : Fin 16) : (s.withStores v).record e = s.record e := rfl

@[simp] theorem record_withTiming (s : State) (v : Timing) (e : Fin 16) : (s.withTiming v).record e = s.record e := rfl

@[simp] theorem record_withMap (s : State) (v : ConnectionMap) (e : Fin 16) : (s.withMap v).record e = s.record e := rfl

@[simp] theorem record_withExchange (s : State) (v : Exchange) (e : Fin 16) : (s.withExchange v).record e = s.record e := rfl

@[simp] theorem record_withProtection (s : State) (v : Table 128 ProtRecord) (e : Fin 16) : (s.withProtection v).record e = s.record e := rfl

@[simp] theorem record_withOperation (s : State) (v : Option PendingOp) (e : Fin 16) : (s.withOperation v).record e = s.record e := rfl

@[simp] theorem record_withChannel (s : State) (v : Channel) (e : Fin 16) : (s.withChannel v).record e = s.record e := rfl

@[simp] theorem record_withSupervision (s : State) (v : Supervision) (e : Fin 16) : (s.withSupervision v).record e = s.record e := rfl

@[simp] theorem record_withPending (s : State) (v : List Instr) (e : Fin 16) : (s.withPending v).record e = s.record e := rfl

@[simp] theorem record_setBank (s : State) (b : BankId) (v : Bank) (e : Fin 16) :
    (s.setBank b v).record e = s.record e := by
  cases b <;> rfl

@[simp] theorem record_setReceiver (s : State) (t : Trunk) (r : Receiver) (e : Fin 16) :
    (s.setReceiver t r).record e = s.record e := rfl

@[simp] theorem record_setStore (s : State) (t : Trunk) (v : Store) (e : Fin 16) :
    (s.setStore t v).record e = s.record e := rfl

/-! ### Records through an offering -/

@[simp] theorem record_withEvents_setRecord (s : State) (i j : Fin 16) (r : EventRecord) :
    (s.withEvents (s.events.setRecord i r)).record j = if j = i then r else s.record j :=
  Table.get_set ..

theorem record_takeNotice (s : State) (i j : Fin 16) :
    (s.takeNotice i).record j = if j = i then { s.record i with notice := .queued } else s.record j :=
  Table.get_set ..

/-- An offering changes no flag, count or detail, and of the notice states only OWED to QUEUED. -/
theorem record_offerFrom (es : List (Fin 16)) (s : State) (j : Fin 16) :
    (offerFrom es s).record j = s.record j
    ∨ (s.record j).notice = .owed ∧ (offerFrom es s).record j = { s.record j with notice := .queued } := by
  induction es generalizing s with
  | nil => exact .inl rfl
  | cons e es ih =>
    simp only [offerFrom]
    split
    · rename_i ho
      split
      · rcases ih (s.takeNotice e) with h | ⟨h1, h2⟩
        · rw [h, record_takeNotice]
          split
          · rename_i hj
            subst hj
            exact .inr ⟨ho, rfl⟩
          · exact .inl rfl
        · rw [record_takeNotice] at h1 h2
          split at h1
          · cases h1
          · rename_i hj
            rw [if_neg hj] at h2
            exact .inr ⟨h1, h2⟩
      · exact .inl rfl
    · exact ih s

/-- An offering leaves the mask, the interval and the re-notify count. -/
theorem settings_offerFrom (es : List (Fin 16)) (s : State) :
    (offerFrom es s).events.mask = s.events.mask ∧ (offerFrom es s).events.interval = s.events.interval
    ∧ (offerFrom es s).events.renotify = s.events.renotify := by
  induction es generalizing s with
  | nil => exact ⟨rfl, rfl, rfl⟩
  | cons e es ih =>
    simp only [offerFrom]
    split
    · split
      · exact ih (s.takeNotice e)
      · exact ⟨rfl, rfl, rfl⟩
    · exact ih s

/-- The record of an event as its occurrence leaves it, before the offering. -/
def occurredRecord (s : State) (ev : Event) (d : Half) : EventRecord :=
  occurred (s.record ev.num) d (!s.events.mask.getLsbD ev.num.val)

theorem raise_eq (s : State) (ev : Event) (d : Half) :
    s.raise ev d =
      offerFrom (List.finRange 16) (s.withEvents (s.events.setRecord ev.num (s.occurredRecord ev d))) :=
  rfl

/-- The record of an event after its occurrence: flag set, count up by 1 to at most 255, the new detail (R172). -/
theorem record_raise_self (s : State) (ev : Event) (d : Half) :
    ((s.raise ev d).record ev.num).flag = true
    ∧ ((s.raise ev d).record ev.num).count = satInc 255 (s.record ev.num).count
    ∧ ((s.raise ev d).record ev.num).detail = d := by
  rw [raise_eq]
  rcases record_offerFrom (List.finRange 16) (s.withEvents (s.events.setRecord ev.num (s.occurredRecord ev d)))
    ev.num with h | ⟨_, h⟩ <;> rw [h] <;> simp [occurredRecord, occurred]

/-- The other records keep flag, count and detail. -/
theorem record_raise_ne (s : State) (ev : Event) (d : Half) {j : Fin 16} (hj : j ≠ ev.num) :
    ((s.raise ev d).record j).flag = (s.record j).flag ∧ ((s.raise ev d).record j).count = (s.record j).count
    ∧ ((s.raise ev d).record j).detail = (s.record j).detail := by
  rw [raise_eq]
  rcases record_offerFrom (List.finRange 16) (s.withEvents (s.events.setRecord ev.num (s.occurredRecord ev d)))
    j with h | ⟨_, h⟩ <;> rw [h] <;> simp [hj]

end State

end Sys2Proof.Machine
end

