-- ==== Sys2Proof/Laws/Channel.lean ====
section
/-!
SUPPORT. What the end of an execution, the response cache and admission can do.
-/

namespace Sys2Proof.Machine

namespace State

/-! ### The end of an execution -/

/-- Placing or holding a response changes the transmit queue or the held response only (R145). -/
theorem placeResponse_eq (s : State) (r : Request) (m : Message) :
    s.placeResponse r m =
      s.withChannel { s.channel with
        txQueue := (s.placeResponse r m).channel.txQueue
        held := (s.placeResponse r m).channel.held } := by
  unfold placeResponse
  split <;> rfl

/-- The end of an execution changes the cache, the transmit queue and the held response only (R143 to R145). -/
theorem complete_eq (r : Request) (reply : Reply) :
    complete r reply =
      reply.state.withChannel { reply.state.channel with
        cache := (complete r reply).channel.cache
        txQueue := (complete r reply).channel.txQueue
        held := (complete r reply).channel.held } := by
  unfold complete
  simp only
  split
  · rfl
  · rw [placeResponse_eq]
    rfl

/-- The cache after the end of an execution (R144). -/
theorem complete_cache (r : Request) (reply : Reply) :
    (complete r reply).channel.cache =
      cached reply.state.channel.cache
        ⟨r.seq, r.check,
          if r.isBroadcast then none else some (reply.state.responseTo r reply.status reply.payload)⟩ := by
  unfold complete
  simp only
  split
  · rfl
  · rw [placeResponse_eq]
    rfl

/-- Every item but the channel is as the execution left it. -/
@[simp] theorem fields_complete (r : Request) (reply : Reply) :
    (complete r reply).pending = reply.state.pending
    ∧ (complete r reply).resetHeld = reply.state.resetHeld
    ∧ (complete r reply).straps = reply.state.straps
    ∧ (complete r reply).receivers = reply.state.receivers
    ∧ (complete r reply).stores = reply.state.stores
    ∧ (complete r reply).timing = reply.state.timing
    ∧ (complete r reply).map = reply.state.map
    ∧ (complete r reply).exchange = reply.state.exchange
    ∧ (complete r reply).protection = reply.state.protection
    ∧ (complete r reply).operation = reply.state.operation
    ∧ (complete r reply).supervision = reply.state.supervision
    ∧ (complete r reply).events = reply.state.events := by
  rw [complete_eq]
  simp

/-! ### The processor -/

/-- With one request in the queue and the processor IDLE, the processor executes it and finds no other. -/
theorem process_one (s : State) (r : Request) (hh : s.channel.held = none) :
    process (s.withChannel { s.channel with requests := [r] }) =
      (s.withChannel { s.channel with requests := [] }).carryOut r := by
  simp [process, runProcessor, hh]

/-- A request that meets a Ready part is executed at once. -/
theorem receiveRequest_ready {s : State} {h : ReqHeader} (hs : s.Ready h) (code : Byte) (p : List Byte) :
    s.receiveRequest (requestOf h code p) = s.carryOut (requestOf h code p) := by
  have haddr : s.addressed (requestOf h code p).unit = true := hs.addressed
  have hfly : s.inFlight (requestOf h code p) = false := by
    simp [inFlight, hs.queueEmpty, hs.processorIdle]
  have hmiss : s.cacheHit (requestOf h code p) = none := by
    unfold cacheHit
    rw [List.find?_eq_none]
    intro e he
    have := hs.notCached e he
    simpa [requestOf, Request.key] using this
  have hreq : { s.channel with requests := ([] : List Request) } = s.channel := by
    rw [← hs.queueEmpty]
  unfold receiveRequest admission
  rw [if_pos haddr, hfly, hmiss]
  simp only [hs.queueEmpty, enqueue]
  simp only [List.nil_append, List.length_nil, Bool.false_eq_true, if_false]
  rw [if_neg (by omega), process_one s _ hs.processorIdle, hreq]
  rfl

/-- The same for a request that arrives. -/
theorem arrives_ready {s : State} {h : ReqHeader} (hs : s.Ready h) (code : Byte) (p : List Byte) :
    s.arrives (requestOf h code p) = s.carryOut (requestOf h code p) := by
  unfold arrives
  rw [hs.released, receiveRequest_ready hs]
  rfl

/-- A known code is carried out as its request (R142). -/
theorem execute_code (s : State) (k : ReqKind) (h : ReqHeader) (p : List Byte) :
    s.execute (requestOf h k.code p) = s.perform k (requestOf h k.code p) := by
  cases k <;> rfl

end State

end Sys2Proof.Machine
end

