-- ==== Sys2Proof/Laws/Offering.lean ====
section
/-!
SUPPORT. Everything an offering of the owed records does, said once (R173): `offered_offerNotices`.
-/

namespace Sys2Proof.Machine.State

/-- The notice a record gives, built under a sequence number (R173). -/
def builtNotice (s : State) (seq : Byte) (e : Fin 16) : TxItem :=
  .notice e ⟨.notice, s.straps.unit, seq, BitVec.ofNat 8 e.val, .ok,
    BitVec.ofNat 8 (s.record e).count :: (octets (s.record e).detail ++ octets s.events.flags)⟩

/-- Two states in which the events of `l` build the same notices. -/
theorem mapIdx_builtNotice {s u : State} {l : List (Fin 16)} {a : Byte} (hu : u.straps = s.straps)
    (hf : u.events.flags = s.events.flags)
    (hr : ∀ e ∈ l, (u.record e).count = (s.record e).count ∧ (u.record e).detail = (s.record e).detail) :
    l.mapIdx (fun k e => u.builtNotice (a + BitVec.ofNat 8 k) e)
      = l.mapIdx (fun k e => s.builtNotice (a + BitVec.ofNat 8 k) e) := by
  have h : ∀ x, ∀ e ∈ l, u.builtNotice x e = s.builtNotice x e := by
    intro x e he
    obtain ⟨hc, hd⟩ := hr e he
    unfold builtNotice
    rw [hu, hf, hc, hd]
  apply List.ext_getElem (by rw [List.length_mapIdx, List.length_mapIdx])
  intro i h1 h2
  rw [List.getElem_mapIdx, List.getElem_mapIdx]
  exact h _ _ (List.getElem_mem _)

theorem flags_takeNotice (s : State) (e : Fin 16) : (s.takeNotice e).events.flags = s.events.flags := by
  have h : ∀ j, ((s.takeNotice e).events.records.get j).flag = (s.events.records.get j).flag := by
    intro j
    have := record_takeNotice s e j
    unfold record at this
    rw [this]
    split
    · rename_i hj
      subst hj
      rfl
    · rfl
  unfold EventUnit.flags
  simp only [h]

/-- A queue that a notice has joined where it found room (R146). -/
abbrev noticesFit (q : List TxItem) : Prop := q.length ≤ 8 ∧ noticesIn q ≤ 4

theorem noticesFit_takeNotice (s : State) (e : Fin 16) (h : roomForNotice s.channel.txQueue = true) :
    noticesFit (s.takeNotice e).channel.txQueue := by
  have hq : (s.takeNotice e).channel.txQueue = s.channel.txQueue ++ [s.builtNotice s.events.noticeSeq e] := rfl
  unfold roomForNotice at h
  simp only [Bool.and_eq_true, decide_eq_true_eq] at h
  have hn : noticesIn (s.channel.txQueue ++ [s.builtNotice s.events.noticeSeq e]) = noticesIn s.channel.txQueue + 1 := by
    unfold noticesIn
    rw [List.filter_append, List.length_append]
    rfl
  rw [hq]
  exact ⟨by rw [List.length_append]; exact h.1, by rw [hn]; exact h.2⟩

/-- An offering over a strictly ascending list of events. -/
theorem offered_offerFrom (l : List (Fin 16)) (s : State) (hl : l.Pairwise (· < ·)) :
    ∃ es : List (Fin 16), es.Sublist l
      ∧ (∀ e, e ∈ es → (s.record e).notice = .owed
          ∧ (offerFrom l s).record e = { s.record e with notice := .queued })
      ∧ (∀ e, e ∉ es → (offerFrom l s).record e = s.record e)
      ∧ (∀ e ∈ l, (s.record e).notice = .owed → e ∉ es →
          (∀ e' ∈ es, e' < e) ∧ roomForNotice (offerFrom l s).channel.txQueue = false)
      ∧ (es ≠ [] → noticesFit (offerFrom l s).channel.txQueue)
      ∧ (offerFrom l s).channel = { s.channel with
          txQueue := s.channel.txQueue ++
            es.mapIdx fun k e => s.builtNotice (s.events.noticeSeq + BitVec.ofNat 8 k) e }
      ∧ (offerFrom l s).events = { s.events with
          records := (offerFrom l s).events.records
          noticeSeq := s.events.noticeSeq + BitVec.ofNat 8 es.length } := by
  induction l generalizing s with
  | nil => exact ⟨[], .slnil, by simp, by simp [offerFrom], by simp, by simp, by simp [offerFrom], by simp [offerFrom]⟩
  | cons a l ih =>
    obtain ⟨ha, hl⟩ := List.pairwise_cons.mp hl
    simp only [offerFrom]
    split
    · rename_i ho
      split
      · rename_i hroom
        obtain ⟨es, h1, h2, h3, h4, h7, h5, h6⟩ := ih (s.takeNotice a) hl
        have hmem : a ∉ es := fun h => lt_irrefl _ (ha a (h1.subset h))
        have hne : ∀ e ∈ es, e ≠ a := fun e h1 h2 => hmem (h2 ▸ h1)
        have hrec : ∀ e, e ≠ a → (s.takeNotice a).record e = s.record e := fun e he => by
          rw [record_takeNotice, if_neg he]
        refine ⟨a :: es, h1.cons_cons a, ?_, ?_, ?_, ?_, ?_, ?_⟩
        · intro e he
          rcases List.mem_cons.mp he with rfl | he
          · refine ⟨ho, ?_⟩
            rw [h3 e hmem, record_takeNotice, if_pos rfl]
          · have := h2 e he
            rwa [hrec e (hne e he)] at this
        · intro e he
          have hea : e ≠ a := fun h => he (h ▸ List.mem_cons_self)
          rw [h3 e (fun h => he (List.mem_cons_of_mem _ h)), hrec e hea]
        · intro e hel hoe he
          have hea : e ≠ a := fun h => he (h ▸ List.mem_cons_self)
          have hel' : e ∈ l := (List.mem_cons.mp hel).resolve_left hea
          obtain ⟨k1, k2⟩ := h4 e hel' (by rw [hrec e hea]; exact hoe) (fun h => he (List.mem_cons_of_mem _ h))
          refine ⟨fun e' he' => ?_, k2⟩
          rcases List.mem_cons.mp he' with rfl | h
          · exact ha e hel'
          · exact k1 e' h
        · intro _
          by_cases he : es = []
          · rw [h5, he]
            simpa using noticesFit_takeNotice s a hroom
          · exact h7 he
        · have hq : (s.takeNotice a).channel.txQueue = s.channel.txQueue ++ [s.builtNotice s.events.noticeSeq a] := rfl
          have hc : (s.takeNotice a).channel = { s.channel with txQueue := (s.takeNotice a).channel.txQueue } := rfl
          have hs : (s.takeNotice a).events.noticeSeq = s.events.noticeSeq + 1 := rfl
          rw [h5, hq, hs, hc]
          have : es.mapIdx (fun k e => (s.takeNotice a).builtNotice (s.events.noticeSeq + 1 + BitVec.ofNat 8 k) e)
              = es.mapIdx (fun k e => s.builtNotice (s.events.noticeSeq + 1 + BitVec.ofNat 8 k) e) :=
            mapIdx_builtNotice rfl (flags_takeNotice s a) fun e he => by rw [hrec e (hne e he)]; exact ⟨rfl, rfl⟩
          rw [this, List.mapIdx_cons, List.append_assoc]
          simp only [BitVec.ofNat_eq_ofNat, BitVec.add_zero, List.singleton_append]
          have e2 : ∀ k : Nat, s.events.noticeSeq + 1#8 + BitVec.ofNat 8 k = s.events.noticeSeq + BitVec.ofNat 8 (k + 1) := by
            intro k
            rw [BitVec.add_assoc, BitVec.ofNat_add, BitVec.add_comm (BitVec.ofNat 8 k)]
          simp only [e2]
        · rw [h6]
          have hs : (s.takeNotice a).events.noticeSeq = s.events.noticeSeq + 1 := rfl
          rw [hs]
          have e2 : s.events.noticeSeq + 1 + BitVec.ofNat 8 es.length
              = s.events.noticeSeq + BitVec.ofNat 8 (a :: es).length := by
            rw [List.length_cons, BitVec.add_assoc, BitVec.ofNat_add, BitVec.add_comm (BitVec.ofNat 8 es.length)]
            rfl
          rw [e2]
          rfl
      · rename_i hr
        refine ⟨[], List.nil_sublist _, by simp, by simp, ?_, by simp, by simp, by simp⟩
        intro e _ _ _
        exact ⟨by simp, by simpa using hr⟩
    · rename_i ho
      obtain ⟨es, h1, h2, h3, h4, h7, h5, h6⟩ := ih s hl
      refine ⟨es, h1.cons a, h2, h3, ?_, h7, h5, h6⟩
      intro e hel hoe he
      rcases List.mem_cons.mp hel with rfl | h
      · exact absurd hoe ho
      · exact h4 e h hoe he

/-- What the offering of all owed records does. -/
theorem offered_offerNotices (s : State) : ∃ es, s.offered s.offerNotices es := by
  obtain ⟨es, h1, h2, h3, h4, h7, h5, h6⟩ := offered_offerFrom (List.finRange 16) s (by decide)
  refine ⟨es, (by decide : (List.finRange 16).Pairwise (· < ·)).sublist h1, h2, h3, ?_, h7, h5, h6, ?_⟩
  · intro e ho he
    obtain ⟨k1, k2⟩ := h4 e (List.mem_finRange e) ho he
    refine ⟨k1, ?_⟩
    unfold roomForNotice at k2
    simp only [Bool.and_eq_false_iff, decide_eq_false_iff_not, Nat.not_lt] at k2
    exact k2
  · obtain ⟨l, e, _, h⟩ := noticesOnly_offerNotices s
    rw [h]
    simp

/-! ### Flag, count and detail of every record -/

theorem facts_offerNotices (s : State) (e : Fin 16) : (s.offerNotices.record e).facts = (s.record e).facts := by
  rcases record_offerFrom (List.finRange 16) s e with h | ⟨_, h⟩ <;> simp [offerNotices, h, EventRecord.facts]

theorem facts_raise (s : State) (ev : Event) (d : Half) (e : Fin 16) :
    ((s.raise ev d).record e).facts = if ev.num = e then (s.record e).after [d] else (s.record e).facts := by
  split
  · rename_i h
    subst h
    obtain ⟨h1, h2, h3⟩ := record_raise_self s ev d
    simp [EventRecord.facts, EventRecord.after, h1, h2, h3, satInc]
  · rename_i h
    obtain ⟨h1, h2, h3⟩ := record_raise_ne s ev d (Ne.symm h)
    simp [EventRecord.facts, h1, h2, h3]

/-- What occurrences raised one after another leave in a record: those of its own event, in their order (R172). -/
theorem facts_raiseAll (l : List (Event × Half)) (s : State) (e : Fin 16) :
    ((s.raiseAll l).record e).facts = (s.record e).after ((l.filter fun x => x.1.num == e).map Prod.snd) := by
  unfold raiseAll
  induction l generalizing s with
  | nil => rfl
  | cons x l ih =>
    rw [List.foldl_cons, ih]
    have h := facts_raise s x.1 x.2 e
    unfold EventRecord.after at h ⊢
    rw [h, List.filter_cons]
    by_cases hx : x.1.num = e
    · simp [hx]
    · simp [hx]

/-! ### Repeat slips (R109, R112) -/

/-- A repeat slip leaves everything but the counters of its trunk, the event unit and notices in the transmit queue. -/
theorem noticesOnly_repeatSlip (s : State) (t : Trunk) :
    NoticesOnly (s.countOn t .addRepeatSlip) (s.repeatSlip t) :=
  noticesOnly_raise ..

end Sys2Proof.Machine.State
end

