-- ==== Sys2Proof/Laws/PerInstr.lean ====
section
/-!
SUPPORT. Per-command lemmas. Message: a well-formed request command fits a message of at most 63 octets (R132).
-/

namespace Sys2Proof.Laws.Message

/-- The octets of a message that carries the command's payload, check included, are at most 63 (R132). -/
def Statement (i : Instr) : Prop := i.wf = true → ∀ p, i.payload? = some p → 7 + p.length ≤ 63

theorem of_fits {i : Instr} : Statement i := by
  intro h p hp
  have hf : payloadFits p = true := by
    simp only [Instr.wf, hp, Bool.and_eq_true] at h
    exact h.1.1
  have := of_decide_eq_true hf
  unfold maxPayload at this
  omega

theorem powerUp (pins : Straps) (low : Bool) : Statement (.powerUp pins low) := of_fits
theorem resetNLow (clocks : Nat) : Statement (.resetNLow clocks) := of_fits
theorem resetNRelease (pins : Straps) : Statement (.resetNRelease pins) := of_fits
theorem outputFrameStart : Statement .outputFrameStart := of_fits
theorem switchActivation : Statement .switchActivation := of_fits
theorem resumeActivation : Statement .resumeActivation := of_fits
theorem supervisionExpiry : Statement .supervisionExpiry := of_fits
theorem holdoverExpiry : Statement .holdoverExpiry := of_fits
theorem renotify : Statement .renotify := of_fits
theorem copyStep : Statement .copyStep := of_fits
theorem patternFound (t : Trunk) (line : List Bool) : Statement (.patternFound t line) := of_fits
theorem verifyBoundary (t : Trunk) (line : List Bool) : Statement (.verifyBoundary t line) := of_fits
theorem lockedBoundary (t : Trunk) (window : BitVec 12) : Statement (.lockedBoundary t window) := of_fits
theorem signalLoss (t : Trunk) : Statement (.signalLoss t) := of_fits
theorem frameDelivery (t : Trunk) (f : WireFrame) (elapsed : Nat) : Statement (.frameDelivery t f elapsed) := of_fits
theorem heldResponsePlaced : Statement .heldResponsePlaced := of_fits
theorem noticeOffer : Statement .noticeOffer := of_fits
theorem unknownCodeRequest (h : ReqHeader) (code : Byte) (p : List Byte) : Statement (.unknownCodeRequest h code p) := of_fits
theorem identify (h : ReqHeader) (p : List Byte) : Statement (.identify h p) := of_fits
theorem readStatus (h : ReqHeader) (p : List Byte) : Statement (.readStatus h p) := of_fits
theorem restart (h : ReqHeader) (p : List Byte) : Statement (.restart h p) := of_fits
theorem writeEntry (h : ReqHeader) (p : List Byte) : Statement (.writeEntry h p) := of_fits
theorem readEntry (h : ReqHeader) (p : List Byte) : Statement (.readEntry h p) := of_fits
theorem clearBank (h : ReqHeader) (p : List Byte) : Statement (.clearBank h p) := of_fits
theorem switch (h : ReqHeader) (p : List Byte) : Statement (.switch h p) := of_fits
theorem cancel (h : ReqHeader) (p : List Byte) : Statement (.cancel h p) := of_fits
theorem copy (h : ReqHeader) (p : List Byte) : Statement (.copy h p) := of_fits
theorem readProtection (h : ReqHeader) (p : List Byte) : Statement (.readProtection h p) := of_fits
theorem protectionCommand (h : ReqHeader) (p : List Byte) : Statement (.protectionCommand h p) := of_fits
theorem setTrunk (h : ReqHeader) (p : List Byte) : Statement (.setTrunk h p) := of_fits
theorem readCounters (h : ReqHeader) (p : List Byte) : Statement (.readCounters h p) := of_fits
theorem setReference (h : ReqHeader) (p : List Byte) : Statement (.setReference h p) := of_fits
theorem keep (h : ReqHeader) (p : List Byte) : Statement (.keep h p) := of_fits
theorem setSupervision (h : ReqHeader) (p : List Byte) : Statement (.setSupervision h p) := of_fits
theorem fallback (h : ReqHeader) (p : List Byte) : Statement (.fallback h p) := of_fits
theorem resume (h : ReqHeader) (p : List Byte) : Statement (.resume h p) := of_fits
theorem freezeFallback (h : ReqHeader) (p : List Byte) : Statement (.freezeFallback h p) := of_fits
theorem readEvents (h : ReqHeader) (p : List Byte) : Statement (.readEvents h p) := of_fits
theorem ackEvents (h : ReqHeader) (p : List Byte) : Statement (.ackEvents h p) := of_fits
theorem setEvents (h : ReqHeader) (p : List Byte) : Statement (.setEvents h p) := of_fits
theorem signalReturn (t : Trunk) : Statement (.signalReturn t) := of_fits

end Sys2Proof.Laws.Message
end

