-- ==== Sys2Proof/Tests/Slice0.lean ====
section
/-!
SUPPORT. The model's own tests: the well-formedness check refuses ill-formed commands, values the chapters print are the
ones the model computes, and for every obligation with hypotheses a concrete state and operands meet them, clause by
clause.
-/

open Sys2Proof Sys2Proof.Machine

namespace Sys2Proof.Tests

/-! ### Well-formedness -/

/-- A request header to the part with unit address 0. -/
def head : ReqHeader := ⟨0, 7, 0x1234⟩

theorem test_wf_payload_too_long : (Instr.identify head (List.replicate 57 0)).wf = false := by decide

theorem test_wf_payload_longest : (Instr.identify head (List.replicate 56 0)).wf = true := by decide

theorem test_wf_known_code : (Instr.unknownCodeRequest head 0x34 []).wf = false := by decide

theorem test_wf_unknown_code : (Instr.unknownCodeRequest head 0x35 []).wf = true := by decide

theorem test_wf_line_too_long : (Instr.verifyBoundary 0 (List.replicate 613 true)).wf = false := by decide +kernel

theorem test_wf_line_longest : (Instr.verifyBoundary 0 (List.replicate 612 true)).wf = true := by decide +kernel

theorem test_no_word_spells_a_command : decodeTableWord 32 0xFFFFFFFF = none := rfl

/-! ### Values the chapters print -/

/-- The check of the nine octets 0x31 to 0x39 is 0x29B1 (R183). -/
theorem test_check_of_nine_octets :
    crcOctets [0x31, 0x32, 0x33, 0x34, 0x35, 0x36, 0x37, 0x38, 0x39] = 0x29B1 := by decide +kernel

/-- The table of R31. -/
theorem test_term_samples :
    (⟨0, 0, 1, false⟩ : Term).scale 5 = 2 ∧ (⟨0, 0, 1, false⟩ : Term).scale (-5) = -3
    ∧ (⟨0, 0, 1, true⟩ : Term).scale (-5) = 3 ∧ (⟨0, 0, 7, false⟩ : Term).scale (-1) = -1
    ∧ (⟨0, 0, 7, false⟩ : Term).scale 1 = 0 ∧ (⟨0, 0, 0, true⟩ : Term).scale 32767 = -32767
    ∧ (⟨0, 0, 0, true⟩ : Term).scale (-32768) = 32767 ∧ (⟨0, 0, 3, true⟩ : Term).scale (-32768) = 4096 := by
  decide

/-- A sum at either limit has not saturated (R35). -/
theorem test_sum_at_the_limits :
    mixSlot [⟨0x7FFF, .data⟩, ⟨1, .data⟩] = ⟨0x7FFF, .data⟩ ∧ overflows 32767 = false ∧ overflows 32768 = true
    ∧ overflows (-32768) = false ∧ overflows (-32769) = true
    ∧ mixSlot [⟨5, .idle⟩, ⟨6, .fault⟩] = ⟨0, .fault⟩ ∧ mixSlot [⟨5, .idle⟩, ⟨6, .idle⟩] = ⟨0, .idle⟩ := by
  decide

/-- A header word, bit by bit: the pattern 1101 0010 1011, the count 0101, FET 1, FB 0 (R183). -/
theorem test_header_word :
    bitsOf (headerWord 5 true false) =
      alignmentBits ++ [false, true, false, true] ++ [true, false] := by
  decide

/-- A protected ROUTE, octet by octet (R185): mode 1, one term, alternate present; IN2.5 shifted by 3 and inverted;
alternate IN0.31; hold-off 4, wait-to-restore 200. -/
theorem test_route_octets :
    (Entry.route ⟨2, 5, 3, true⟩ (some ⟨⟨0, 31, 0, false⟩, 4, 200⟩)).octets =
      [0x10, 0x01, 0x01, 0x45, 0x83, 0x1F, 0x00, 0x04, 0xC8]
    ∧ entryOf [0x10, 0x01, 0x01, 0x45, 0x83, 0x1F, 0x00, 0x04, 0xC8] =
      .route ⟨2, 5, 3, true⟩ (some ⟨⟨0, 31, 0, false⟩, 4, 200⟩) := by
  decide

/-- An entry with hold-off 0, a term on trunk 4, and a qualifier FAULT are out of range; two terms on one input slot and
a MIX of one term break the structure (R11, R12). -/
theorem test_entries_refused :
    entryFieldsOk [0x10, 1, 1, 0x45, 0x83, 0x1F, 0, 0, 0xC8] = false ∧ entryFieldsOk [0x10, 1, 0, 0x80, 0] = false
    ∧ entryFieldsOk [0x32, 0, 0, 0, 1] = false ∧ entryShapeOk [0x20, 2, 0, 0x45, 0x03, 0x45, 0x01] = false
    ∧ entryShapeOk [0x20, 1, 0, 0x45, 0x03] = false ∧ entryShapeOk [0x20, 2, 0, 0x45, 0x03, 0x46, 0x01] = true := by
  decide

/-! ### States -/

/-- The part after power-up with open straps: management trunk 0, unit 0. -/
def base : State := State.reset

theorem base_ready : base.Ready head := ⟨rfl, rfl, rfl, rfl, fun _ h => by cases h⟩

/-- A part with the channel, the reset line and the straps of `base` is ready for the same request. -/
theorem ready_of {s : State} (h1 : s.resetHeld = false) (h2 : s.straps = base.straps) (h3 : s.channel = base.channel) :
    s.Ready head where
  released := h1
  addressed := by
    unfold State.addressed
    rw [h2]
    rfl
  processorIdle := by rw [h3]; rfl
  queueEmpty := by rw [h3]; rfl
  notCached := by
    rw [h3]
    intro _ h
    cases h

/-- `base` with one item replaced. -/
abbrev withOp (op : PendingOp) : State := base.withOperation (some op)
abbrev withSup (st : SupState) : State := base.withSupervision { base.supervision with state := st }
abbrev withAlign (t : Trunk) (a : Machine.Alignment) : State := base.setReceiver t { base.receiver t with align := a }
abbrev lapsedBase : State := withSup (.lapsed .expiry)
abbrev frozenBase : State := base.withMap { base.map with frozen := true }

theorem ready_withOp (op : PendingOp) : (withOp op).Ready head := ready_of rfl rfl rfl
theorem ready_withSup (st : SupState) : (withSup st).Ready head := ready_of rfl rfl rfl
theorem ready_frozen : frozenBase.Ready head := ready_of rfl rfl rfl
theorem ready_withAlign (t : Trunk) (a : Machine.Alignment) : (withAlign t a).Ready head := ready_of rfl rfl rfl

/-- A protected route: primary IN1.0, alternate IN2.0, hold-off 1, wait-to-restore 2. -/
def protectedRoute : Entry := .route ⟨1, 0, 0, false⟩ (some ⟨⟨2, 0, 0, false⟩, 1, 2⟩)

/-- `base` with the protected route at index 0 of the current bank. -/
def routed : State := base.setBank .bank0 ⟨base.map.bank0.entries.set 0 protectedRoute, 0⟩

theorem ready_routed : routed.Ready head := ready_of rfl rfl rfl

/-- A message that waits. -/
def waiting : Message := ⟨.response, 0, 1, 1, .ok, []⟩

/-- `base` with a transmit queue of 8 messages and the request 9 held by the processor. -/
def congested : State :=
  base.withChannel { base.channel with
    txQueue := List.replicate 8 (.response waiting)
    held := some ⟨9, 0x9999, waiting⟩ }

/-- A request that waits in a queue. -/
def queued (seq : Byte) : Request := ⟨0, seq, 1, [], 0⟩

/-! ### Every hypothesis of an obligation is met, clause by clause

A clause over a payload is met at the payload named; its range ends are taken where it has any. -/

theorem witness_step :
    (base.withPending [.copyStep]).pending = .copyStep :: [] ∧ base.pending = [] := ⟨rfl, rfl⟩

theorem witness_heldInReset : (base.heldInReset).resetHeld = true
    ∧ (∀ pins low, Instr.copyStep ≠ .powerUp pins low) ∧ (∀ clocks, Instr.copyStep ≠ .resetNLow clocks)
    ∧ (∀ pins, Instr.copyStep ≠ .resetNRelease pins) :=
  ⟨rfl, fun _ _ => nofun, fun _ => nofun, fun _ => nofun⟩

theorem witness_resetLow : (0 : Nat) = 0 ∧ 1 ≤ (1 : Nat) := by decide

theorem witness_resetRelease :
    base.heldInReset.resetHeld = true ∧ base.heldInReset.map.frozen = false
    ∧ frozenBase.heldInReset.resetHeld = true ∧ frozenBase.heldInReset.map.frozen = true := ⟨rfl, rfl, rfl, rfl⟩

/-- ExecutionIsCachedAndAnswered: a broadcast; a unicast request with 7 and with 8 messages waiting. -/
theorem witness_execution :
    (15 : BitVec 4) = 15 ∧ (14 : BitVec 4) ≠ 15 ∧ (List.replicate 7 (TxItem.response waiting)).length < 8
    ∧ 8 ≤ congested.channel.txQueue.length := by decide +kernel

/-- CacheKeepsTheLatestFour: a known sequence number; a new one with four and with three entries. -/
theorem witness_cache :
    let l : List CacheEntry := [⟨1, 0, none⟩, ⟨2, 0, none⟩, ⟨3, 0, none⟩, ⟨4, 0, none⟩]
    (∃ x ∈ l, x.seq = 4) ∧ (∀ x ∈ l, x.seq ≠ 5) ∧ l.length = 4 ∧ (∀ x ∈ l.tail, x.seq ≠ 5) ∧ l.tail.length < 4
    ∧ l.length ≤ 4 ∧ (l.map CacheEntry.seq).Nodup := by decide

theorem witness_refusal : 16 ≤ (base.execute (queued 1)).status.code.toNat
    ∨ 16 ≤ (base.execute ⟨0, 1, 0xFF, [], 0⟩).status.code.toNat := .inr (by decide +kernel)

/-- RepeatedRequestsAreNotExecuted: another address; a request in the queue and one held; cached entries with and without
a response, with room and without. -/
theorem witness_repeated :
    base.resetHeld = false ∧ (3 : BitVec 4) ≠ base.straps.unit ∧ (3 : BitVec 4) ≠ 15
    ∧ keyInFlight congested 9 0x9999
    ∧ keyInFlight (base.withChannel { base.channel with requests := [queued 5] }) 5 0
    ∧ ¬ keyInFlight base 7 0x1234
    ∧ keyInCache (base.withChannel { base.channel with cache := [⟨7, 0x1234, none⟩] }) 7 0x1234
        = some ⟨7, 0x1234, none⟩
    ∧ keyInCache (base.withChannel { base.channel with cache := [⟨7, 0x1234, some waiting⟩] }) 7 0x1234
        = some ⟨7, 0x1234, some waiting⟩
    ∧ base.channel.txQueue.length < 8 ∧ 8 ≤ congested.channel.txQueue.length := by
  refine ⟨rfl, by decide, by decide, .inr ⟨_, rfl, rfl, rfl⟩, .inl ⟨queued 5, List.mem_singleton.mpr rfl, rfl, rfl⟩, ?_, rfl,
    rfl, by decide +kernel, by decide +kernel⟩
  rintro (⟨_, h, _⟩ | ⟨_, h, _⟩) <;> cases h

/-- RepeatedRequestsAreNotExecuted, FullQueueRefusesAndWaitingQueues: a known and an unknown request. -/
theorem witness_brings : bringsRequest (.keep head [1]) head 0x30 [1]
    ∧ bringsRequest (.unknownCodeRequest head 0xFF []) head 0xFF [] := ⟨.inl ⟨.keep, rfl, rfl⟩, .inr rfl⟩

/-- FullQueueRefusesAndWaitingQueues: four requests that wait, with room in the transmit queue and without; three that
wait behind a held response. -/
theorem witness_fullQueue :
    let four := base.withChannel { base.channel with requests := [queued 1, queued 2, queued 3, queued 4] }
    let stuck := congested.withChannel { congested.channel with requests := four.channel.requests }
    let three := congested.withChannel { congested.channel with requests := four.channel.requests.tail }
    (four.resetHeld = false ∧ stuck.resetHeld = false ∧ three.resetHeld = false)
    ∧ (¬ keyInFlight four 7 0x1234 ∧ ¬ keyInFlight stuck 7 0x1234 ∧ ¬ keyInFlight three 7 0x1234)
    ∧ (keyInCache four 7 0x1234 = none ∧ keyInCache stuck 7 0x1234 = none ∧ keyInCache three 7 0x1234 = none)
    ∧ 4 ≤ four.channel.requests.length ∧ (0 : BitVec 4) ≠ 15 ∧ four.channel.txQueue.length < 8
    ∧ 4 ≤ stuck.channel.requests.length ∧ 8 ≤ stuck.channel.txQueue.length
    ∧ three.channel.requests.length < 4 ∧ three.channel.held ≠ none := by
  refine ⟨⟨rfl, rfl, rfl⟩, ⟨?_, ?_, ?_⟩, ⟨rfl, rfl, rfl⟩, by decide, by decide, by decide, by decide, by decide, by decide,
    nofun⟩
  · rintro (⟨q, h, h1, h2⟩ | ⟨_, h, _⟩)
    · revert h2
      rcases List.mem_cons.mp h with rfl | h
      · decide
      · rcases List.mem_cons.mp h with rfl | h
        · decide
        · rcases List.mem_cons.mp h with rfl | h
          · decide
          · rcases List.mem_singleton.mp h with rfl
            decide
    · cases h
  · rintro (⟨q, h, h1, h2⟩ | ⟨x, h, h1, h2⟩)
    · revert h2
      rcases List.mem_cons.mp h with rfl | h
      · decide
      · rcases List.mem_cons.mp h with rfl | h
        · decide
        · rcases List.mem_cons.mp h with rfl | h
          · decide
          · rcases List.mem_singleton.mp h with rfl
            decide
    · cases h
      revert h1
      decide
  · rintro (⟨q, h, h1, h2⟩ | ⟨x, h, h1, h2⟩)
    · revert h2
      rcases List.mem_cons.mp h with rfl | h
      · decide
      · rcases List.mem_cons.mp h with rfl | h
        · decide
        · rcases List.mem_singleton.mp h with rfl
          decide
    · cases h
      revert h1
      decide

theorem witness_unknownCode : base.Ready head ∧ ∀ k : ReqKind, k.code ≠ 0x3B :=
  ⟨base_ready, fun k => by cases k <;> decide⟩

/-- IDENTIFY, READ_STATUS, RESTART, FREEZE_FALLBACK, READ_EVENTS, FALLBACK, CANCEL: an empty payload and one octet. -/
theorem witness_emptyPayload : base.Ready head ∧ ([] : List Byte) = [] ∧ [(0 : Byte)] ≠ [] :=
  ⟨base_ready, rfl, by decide⟩

/-- Without a pending operation no bank is held. -/
theorem base_holdsNone (b : BankId) : ¬ bankHeld base b := by
  rintro (⟨_, _, _, h, _⟩ | ⟨_, _, h, _⟩ | ⟨_, _, _, _, h, _⟩) <;> cases h

/-- A bank held by each kind of operation (R16): the shadow, the current bank, the source and the destination. -/
theorem witness_bankHeld :
    bankHeld (withOp (.switch 1 4 none)) .bank1 ∧ bankHeld (withOp (.resume 1 4)) .bank0
    ∧ bankHeld (withOp (.copy 1 .bank0 .f 0)) .bank0 ∧ bankHeld (withOp (.copy 1 .bank0 .f 0)) .f :=
  ⟨.inl ⟨_, _, _, rfl, rfl⟩, .inr (.inl ⟨_, _, rfl, rfl⟩), .inr (.inr ⟨_, _, _, _, rfl, .inl rfl⟩),
    .inr (.inr ⟨_, _, _, _, rfl, .inr rfl⟩)⟩

/-- WriteEntryReplacesTheEntry: a protected ROUTE with hold-off 1 and the largest wait-to-restore into the shadow, bank F
unfrozen. -/
theorem witness_writeEntry :
    let e : Entry := .route ⟨1, 31, 0, false⟩ (some ⟨⟨0, 30, 7, true⟩, 1, 255⟩)
    base.Ready head ∧ e.wellFormed = true ∧ (127 : Fin 128) ≠ base.reserved
    ∧ (∀ t ∈ e.allTerms, t.input ≠ (base.mgmtTrunk, 31)) ∧ BankId.bank1 ≠ base.liveBank ∧ BankId.f ≠ base.liveBank
    ∧ base.map.frozen = false ∧ ¬ bankHeld base .bank1 :=
  ⟨base_ready, by decide, by decide, by decide, by decide, by decide, rfl, base_holdsNone _⟩

/-- WriteEntryChecksInOrder: a short payload; bank 3, index 128 and an alternate mark out of range; a MIX of one term; the
reserved index and a term on the management slot; the live, the frozen and a held bank. -/
theorem witness_writeChecks :
    let off : List Byte := [0, 0, 0]
    ([(1 : Byte)].length ≠ 2 + declaredLength ([(1 : Byte)].drop 2))
    ∧ ((3 : Byte) :: 0 :: off).length = 2 + declaredLength off ∧ 2 < (3 : Byte).toNat ∧ 127 < (128 : Byte).toNat
    ∧ base.reserved = 31 ∧ BankId.bank0 = base.liveBank
    ∧ BankId.f ≠ frozenBase.liveBank ∧ frozenBase.map.frozen = true
    ∧ BankId.bank1 ≠ (withOp (.switch 1 4 none)).liveBank := by
  decide

theorem witness_writeFields :
    ¬ fieldsInRange [0, 0, 2] ∧ fieldsInRange [0x20, 1, 0, 0x1F, 7] ∧ fieldsInRange [0, 0, 0]
    ∧ fieldsInRange [0x10, 1, 1, 0x20, 0x80, 0x7F, 7, 15, 255] := by
  unfold fieldsInRange termInRange
  dsimp only
  exact ⟨by decide, by decide, by decide, by decide⟩

theorem witness_writeShape : ¬ shapeHolds [0x20, 1, 0, 0x1F, 7] ∧ shapeHolds [0, 0, 0]
    ∧ shapeHolds [0x10, 1, 1, 0x20, 0x80, 0x7F, 7, 15, 255] :=
  ⟨fun h => absurd (h.2.2.1 (by decide)).1 (by decide),
    ⟨fun _ => by decide, fun h => absurd h (by decide), fun h => absurd h (by decide), fun h => absurd h (by decide)⟩,
    ⟨fun h => absurd h (by decide), fun _ => by decide, fun h => absurd h (by decide), fun h => absurd h (by decide)⟩⟩

/-- The octets of each mode stand for their entry, ignored bits set. -/
theorem witness_standsFor :
    standsFor [0x0F, 0, 0] .off ∧ standsFor [0x1C, 1, 0, 0x1F, 0x70] (.route ⟨0, 31, 0, false⟩ none)
    ∧ standsFor [0x10, 1, 1, 0x20, 0x80, 0x7F, 7, 15, 255]
        (.route ⟨1, 0, 0, true⟩ (some ⟨⟨3, 31, 7, false⟩, 15, 255⟩))
    ∧ standsFor [0x3D, 0, 0, 0x80, 0x01] (.fixed 0x8001 .data) := by
  simp only [standsFor, standsForTerm]
  decide

theorem witness_standsForMix :
    standsFor [0x20, 2, 0, 0x00, 0, 0x61, 0x85] (.mix [⟨0, 0, 0, false⟩, ⟨3, 1, 5, true⟩]) := by
  simp only [standsFor, standsForTerm]
  decide

theorem witness_writeReady : base.Ready head ∧ frozenBase.Ready head ∧ (withOp (.switch 1 4 none)).Ready head :=
  ⟨base_ready, ready_frozen, ready_withOp _⟩

/-- ReadEntryReturnsTheEntry: one octet; selector 4 and index 128; bank F and LIVE at index 127. -/
theorem witness_readEntry :
    base.Ready head ∧ [(0 : Byte)].length ≠ 2 ∧ 3 < (4 : Byte).toNat ∧ 127 < (128 : Byte).toNat
    ∧ byteAt [2, 127] 0 = BankId.f.code ∧ (byteAt [2, 127] 1).toNat = (127 : Fin 128).val
    ∧ byteAt [3, 127] 0 = 3 ∧ BankId.bank0 = base.liveBank :=
  ⟨base_ready, by decide, by decide, by decide, by decide, by decide, by decide, by decide⟩

theorem witness_entryEncoding : Entry.wellFormed .off = true ∧ protectedRoute.wellFormed = true
    ∧ (Entry.mix [⟨0, 0, 0, false⟩, ⟨0, 1, 0, false⟩, ⟨0, 2, 0, false⟩, ⟨0, 3, 0, false⟩]).wellFormed = true := by
  decide

/-- ClearBankEmptiesTheBank: no octet; bank 3; the live, the frozen, a held and a free bank. -/
theorem witness_clearBank :
    ([] : List Byte).length ≠ 1 ∧ 2 < (byteAt [3] 0).toNat ∧ BankId.bank0 = base.liveBank
    ∧ BankId.f ≠ frozenBase.liveBank ∧ frozenBase.map.frozen = true
    ∧ BankId.f ≠ (withOp (.copy 1 .bank0 .f 0)).liveBank ∧ (withOp (.copy 1 .bank0 .f 0)).map.frozen = false
    ∧ BankId.f ≠ base.liveBank := by
  decide

theorem witness_clearReady : base.Ready head ∧ frozenBase.Ready head ∧ (withOp (.copy 1 .bank0 .f 0)).Ready head :=
  ⟨base_ready, ready_frozen, ready_withOp _⟩

theorem witness_liveBank : (withOp (.copy 1 .bank0 .bank1 127)).operationSound :=
  ⟨by decide, by decide, by decide, by decide⟩

/-- SwitchIsCheckedAndAccepted: five octets; marks of 2; an operation that waits; the frame number of the last start, and
32769 ahead; 1 ahead and 32768 ahead with an expected count that differs, one that agrees, and none. -/
theorem witness_switch :
    ([0, 0, 0, 0, 0] : List Byte).length ≠ 6 ∧ 1 < (2 : Byte).toNat ∧ (withOp (.resume 1 1)).operation ≠ none
    ∧ base.operation = none
    ∧ ¬ inWindow base (namedFrame base [1, 0xFF, 0xFF, 0, 0, 0]) ∧ ¬ inWindow base (namedFrame base [1, 0x80, 0, 0, 0, 0])
    ∧ inWindow base (namedFrame base [1, 0x7F, 0xFF, 0, 0, 0]) ∧ inWindow base (namedFrame base [0, 0, 0, 1, 0, 5])
    ∧ halfAt [0, 0, 0, 1, 0, 5] 4 ≠ (base.bank base.shadowBank).editCount
    ∧ halfAt [0, 0, 0, 1, 0, 0] 4 = (base.bank base.shadowBank).editCount := by
  refine ⟨by decide, by decide, nofun, rfl, ?_, ?_, ?_, ?_, by decide, by decide⟩ <;> unfold inWindow <;> decide

/-- ResumeIsCheckedAndAccepted: two octets; a mark of 2; not LAPSED; LAPSED with a frame behind and one ahead. -/
theorem witness_resume :
    ([0, 0] : List Byte).length ≠ 3 ∧ 1 < (2 : Byte).toNat ∧ base.isLapsed = false ∧ lapsedBase.isLapsed = true
    ∧ lapsedBase.operation = none ∧ ¬ inWindow lapsedBase (namedFrame lapsedBase [1, 0xFF, 0xFF])
    ∧ inWindow lapsedBase (namedFrame lapsedBase [0, 0, 0]) := by
  refine ⟨by decide, by decide, by decide, by decide, rfl, ?_, ?_⟩ <;> unfold inWindow <;> decide

theorem witness_resumeReady : lapsedBase.Ready head := ready_withSup _

/-- CopyIsCheckedAndAccepted: one octet; bank 3 and one bank twice; an operation that waits; the live and the frozen
destination; a free one. -/
theorem witness_copy :
    ([0] : List Byte).length ≠ 2 ∧ 2 < (3 : Byte).toNat ∧ byteAt [1, 1] 0 = byteAt [1, 1] 1
    ∧ BankId.bank1 ≠ .bank0 ∧ (withOp (.resume 1 1)).operation ≠ none ∧ BankId.bank0 = base.liveBank
    ∧ BankId.f ≠ frozenBase.liveBank ∧ frozenBase.map.frozen = true ∧ frozenBase.operation = none
    ∧ BankId.f ≠ base.liveBank ∧ base.map.frozen = false := by
  decide

theorem witness_cancel :
    base.operation = none ∧ (withOp (.switch 1 4 (some 0))).Ready head ∧ (withOp (.resume 1 4)).Ready head
    ∧ (withOp (.copy 1 .bank0 .bank1 127)).Ready head := ⟨rfl, ready_withOp _, ready_withOp _, ready_withOp _⟩

/-- CopyStepCopiesOneEntry: progress 126 and 127; a SWITCH that waits. -/
theorem witness_copyStep :
    base.resetHeld = false ∧ 126 < 127 ∧ (withOp (.copy 1 .bank0 .bank1 127)).resetHeld = false ∧ BankId.bank0 ≠ .bank1
    ∧ (∀ seq src dst n, (withOp (.switch 1 4 none)).operation ≠ some (.copy seq src dst n)) :=
  ⟨rfl, by decide, rfl, by decide, fun _ _ _ _ => nofun⟩

/-- ReadProtectionReturnsTheRecord and ProtectionCommandSetsTheRecord: lengths; index 128 and command 3; the reserved
index, an unprotected and a protected route. -/
theorem witness_protection :
    ([] : List Byte).length ≠ 1 ∧ 127 < (128 : Byte).toNat ∧ ([0] : List Byte).length ≠ 2 ∧ 2 < (3 : Byte).toNat
    ∧ routed.reserved = 31 ∧ (0 : Fin 128) ≠ routed.reserved
    ∧ (routed.bank routed.liveBank).entries.get 0 = protectedRoute
    ∧ (routed.bank routed.liveBank).entries.get 1 = .off := by
  decide +kernel

theorem witness_protectionReady : routed.Ready head := ready_routed

/-- HoldOffMovesToTheAlternate: hold-off 1 and 15, count 13 and 14 of 15. -/
theorem witness_holdOff : 1 ≤ 1 ∧ 1 < 15 ∧ 13 + 1 < 15 ∧ 15 ≤ 14 + 1 := by decide

/-- WaitToRestoreMovesBack: wait-to-restore 0, 1, 2 and 255, count 254 and 253 of 255. -/
theorem witness_waitToRestore : 2 ≤ 255 ∧ 1 ≤ 255 ∧ 254 + 1 = 255 ∧ 253 + 1 < 255
    ∧ ((⟨.alternate, 0, .none⟩ : ProtRecord).select ⟨⟨0, 0, 0, false⟩, 1, 2⟩ false false).1.state = .restoring := by
  decide

/-- SetTrunkEnablesAndDisables: one octet; trunk 4 and mark 2; the management trunk; a disabled, a searching and a
verifying receiver. -/
theorem witness_setTrunk :
    ([0] : List Byte).length ≠ 2 ∧ 3 < (4 : Byte).toNat ∧ 1 < (2 : Byte).toNat ∧ (0 : Trunk) = base.mgmtTrunk
    ∧ ((withAlign 3 .disabled).receiver 3).align = .disabled ∧ (base.receiver 3).align ≠ .disabled
    ∧ (3 : Trunk) ≠ base.mgmtTrunk ∧ (base.receiver 3).align = .search
    ∧ ((withAlign 3 (.verify 0 2)).receiver 3).align = .verify 0 2 := by
  decide

theorem witness_setTrunkReady : (withAlign 3 .disabled).Ready head ∧ (withAlign 3 (.verify 0 2)).Ready head :=
  ⟨ready_withAlign _ _, ready_withAlign _ _⟩

theorem witness_disable : (withAlign 3 (.locked 0 3 (some 15))).Ready head ∧ (3 : Trunk) ≠ base.mgmtTrunk
    ∧ ((withAlign 3 (.locked 0 3 (some 15))).receiver 3).align = .locked 0 3 (some 15) :=
  ⟨ready_withAlign _ _, by decide, by decide⟩

theorem witness_readCounters : ([0, 0, 0] : List Byte).length ≠ 2 ∧ 3 < (4 : Byte).toNat ∧ 1 < (2 : Byte).toNat
    ∧ ([3, 1] : List Byte) = [BitVec.ofNat 8 (3 : Trunk).val, mark true] := by decide

/-- SetReferenceReplacesTheList: a count that does not fit; five trunks, trunk 4, a trunk twice; the full list. -/
theorem witness_setReference :
    ([2, 0] : List Byte).length ≠ 1 + (byteAt [2, 0] 0).toNat ∧ ([5, 0, 1, 2, 3, 0] : List Byte).length = 1 + 5
    ∧ 4 < (5 : Byte).toNat ∧ (∃ x ∈ ([1, 4] : List Byte).drop 1, 3 < x.toNat) ∧ ¬ (([2, 1, 1] : List Byte).drop 1).Nodup
    ∧ ([3, 1, 0, 2] : List Trunk).Nodup ∧ ([3, 1, 0, 2] : List Trunk).length ≤ 4
    ∧ ([4, 3, 1, 0, 2] : List Byte)
        = BitVec.ofNat 8 4 :: ([3, 1, 0, 2] : List Trunk).map (fun t => BitVec.ofNat 8 t.val) := by
  decide

/-- The timing unit with a list, counts of 64 on the trunks named, a state, a source and a hand-over. -/
def timing (l qualified : List Trunk) (st : TimerState) (src : Source) (h : Option HandOver) : Timing :=
  { base.timing with
    state := st, refList := l, delivered := Table.ofFn fun t => if t ∈ qualified then 64 else 0, source := src, handOver := h }

/-- SelectionIsEvaluated: an empty list; nothing selected in TRACKING and in HOLDOVER; the tracked trunk selected; another
one selected with the source stopped, with that trunk as the source, and with another source. -/
theorem witness_selection :
    base.timing.refList = []
    ∧ (timing [1, 2] [] (.tracking 1) (.trunk 1) none).selection = none
    ∧ (timing [1, 2] [] (.holdover 1 8192) .timer none).selection = none
    ∧ (∀ t, (timing [1, 2] [] (.holdover 1 8192) .timer none).state ≠ .tracking t)
    ∧ (timing [1, 2] [1, 2] (.tracking 1) (.trunk 1) none).selection = some 1
    ∧ (timing [2, 1] [1, 2] (.tracking 1) (.trunk 1) none).selection = some 2
    ∧ sourceStopped (timing [2, 1] [1, 2] (.tracking 1) (.trunk 3) (some ⟨1, true⟩))
    ∧ ¬ sourceStopped (timing [2, 1] [1, 2] (.tracking 1) (.trunk 2) (some ⟨1, false⟩))
    ∧ (timing [2, 1] [1, 2] (.tracking 1) (.trunk 1) none).source ≠ .trunk 2
    ∧ sameReference (.holdover 1 5) (.holdover 1 4) ∧ ¬ sameReference .freeRun (.tracking 0) := by
  refine ⟨rfl, by decide, by decide, fun _ => nofun, by decide, by decide, ⟨1, rfl⟩, ?_, by decide, rfl, id⟩
  rintro ⟨t, h⟩
  cases h

/-- KeepReloadsOrIsStale: no octet; phase 0 and 3; WATCHING with another and with the same last phase; OFF; LAPSED. -/
theorem witness_keep :
    ([] : List Byte).length ≠ 1 ∧ byteAt [0] 0 ≠ 1 ∧ byteAt [0] 0 ≠ 2 ∧ byteAt [3] 0 ≠ 2
    ∧ (withSup (.watching 1)).supervision.state = .watching 1 ∧ (withSup (.watching 1)).supervision.lastPhase ≠ some .a
    ∧ ((withSup (.watching 1)).withSupervision ⟨.watching 1, true, 256, some .a⟩).supervision.lastPhase = some .a
    ∧ base.supervision.state = .off ∧ lapsedBase.supervision.state = .lapsed .expiry := by
  decide

/-- SetSupervisionSetsThePeriod: one octet; 1, 255; 0 with SUPV strapped and without; 256 and 65535, in each state. -/
theorem witness_setSupervision :
    ([0] : List Byte).length ≠ 2 ∧ 1 ≤ (halfAt [0, 1] 0).toNat ∧ (halfAt [0, 255] 0).toNat ≤ 255
    ∧ halfAt [0, 0] 0 = 0 ∧ (State.powerUp ⟨0, 0, 0, true⟩ 0).straps.supv = true ∧ base.straps.supv = false
    ∧ 256 ≤ (halfAt [1, 0] 0).toNat ∧ 256 ≤ (halfAt [0xFF, 0xFF] 0).toNat
    ∧ base.supervision.state = .off ∧ (withSup (.watching 9)).supervision.state = .watching 9
    ∧ lapsedBase.supervision.state = .lapsed .expiry := by
  decide

theorem witness_setSupervisionReady : (State.powerUp ⟨0, 0, 0, true⟩ 0).Ready head
    ∧ (withSup (.watching 9)).Ready head :=
  ⟨⟨rfl, rfl, rfl, rfl, fun _ h => by cases h⟩, ready_withSup _⟩

/-- FallbackHandsThePartToF: LAPSED; not LAPSED with an entry set, a SWITCH, a copy into F and one into bank 1. -/
theorem witness_fallback :
    lapsedBase.supervision.state = .lapsed .expiry ∧ base.isLapsed = false
    ∧ (base.withExchange ⟨some ⟨.bank0, base.map.bank0.entries⟩, none⟩).exchange.latched
        = some ⟨.bank0, base.map.bank0.entries⟩
    ∧ (withOp (.switch 1 4 none)).isLapsed = false ∧ (withOp (.copy 1 .bank0 .f 5)).isLapsed = false
    ∧ BankId.bank1 ≠ .f := by
  refine ⟨rfl, rfl, rfl, rfl, rfl, by decide⟩

theorem witness_freeze :
    frozenBase.map.frozen = true ∧ base.map.frozen = false
    ∧ (withOp (.copy 1 .bank0 .f 5)).operation = some (.copy 1 .bank0 .f 5)
    ∧ (∀ seq src n, base.operation ≠ some (.copy seq src .f n)) := ⟨rfl, rfl, rfl, fun _ _ _ => nofun⟩

theorem witness_frozenKept : frozenBase.map.frozen = true ∧ frozenBase.operationSound
    ∧ (∀ pins low, Instr.outputFrameStart ≠ .powerUp pins low) := ⟨rfl, trivial, fun _ _ => nofun⟩

theorem witness_eventRequests : ([0] : List Byte).length ≠ 2 ∧ ([0xFF, 0xFF] : List Byte).length = 2
    ∧ ([0, 0] : List Byte).length ≠ 3 ∧ ([0, 0, 0] : List Byte).length = 3 := by decide

/-- RoomIsHandedOut: a held response and 7 messages; no held response; 8 messages. -/
theorem witness_room :
    let seven := congested.withChannel { congested.channel with txQueue := List.replicate 7 (.response waiting) }
    seven.resetHeld = false ∧ seven.channel.held = some ⟨9, 0x9999, waiting⟩ ∧ seven.channel.txQueue.length < 8
    ∧ seven.channel.requests = []
    ∧ base.channel.held = none ∧ 8 ≤ congested.channel.txQueue.length := by
  refine ⟨rfl, rfl, by decide, rfl, rfl, by decide⟩

/-- RoomIsHandedOut: the processor in WAITING_TX; IDLE without a request, with four, and with a RESTART before three. -/
theorem witness_process :
    let four := base.withChannel { base.channel with requests := [queued 1, queued 2, queued 3, queued 4] }
    let restart : Request := ⟨0, 9, 0x03, [], 0⟩
    let behind := base.withChannel { base.channel with requests := [restart, queued 2, queued 3, queued 4] }
    congested.channel.held ≠ none ∧ base.channel.requests = []
    ∧ four.channel.held = none ∧ four.channel.requests = queued 1 :: [queued 2, queued 3, queued 4]
    ∧ behind.channel.requests = restart :: [queued 2, queued 3, queued 4] ∧ restart.code = 0x03
    ∧ restart.payload = [] := by
  refine ⟨nofun, rfl, rfl, rfl, rfl, rfl, rfl⟩

/-! ### Output frame starts -/

/-- A frame record of FAULT slots. -/
def faults : FrameRecord := Table.fill 32 ⟨0, .fault⟩

theorem base_sourceReady : sourceReady base.timing := by
  refine ⟨?_, fun _ => nofun⟩
  rintro ⟨_, h⟩
  cases h

/-- A trunk is the source, with a start owed; none owed; a delivery too soon has stopped the source. -/
theorem witness_sourceReady :
    sourceReady { timing [1] [1] (.tracking 1) (.trunk 1) none with owed := some 7 }
    ∧ ¬ sourceReady (timing [1] [1] (.tracking 1) (.trunk 1) none)
    ∧ ¬ sourceReady (timing [1] [1] (.tracking 1) .timer (some ⟨1, true⟩)) := by
  refine ⟨⟨?_, fun _ _ => nofun⟩, fun h => h.2 1 rfl rfl, fun h => h.1 ⟨1, rfl⟩⟩
  rintro ⟨_, h⟩
  cases h

/-- StartBuildsTheFrames: a start by the timer with nothing due and the transmitter IDLE; WATCHING with a count of 2. -/
theorem witness_start :
    base.resetHeld = false
    ∧ (∀ seq n x, base.operation = some (.switch seq n x) → n ≠ base.timing.counter + 1)
    ∧ (∀ seq n, base.operation = some (.resume seq n) → n ≠ base.timing.counter + 1)
    ∧ (withSup (.watching 2)).supervision.state = .watching 2 ∧ (∀ c, base.supervision.state ≠ .watching c)
    ∧ base.channel.transmitter = .idle := by
  refine ⟨rfl, fun _ _ _ => nofun, fun _ _ => nofun, rfl, fun _ => nofun, rfl⟩

/-- StartBuildsTheFrames: each move of a protected route, and a mix that clips. -/
theorem witness_startEvents :
    let a : Alternate := ⟨⟨2, 0, 0, false⟩, 1, 1⟩
    let full : FrameRecord := Table.fill 32 ⟨32767, .data⟩
    let u := base.setStore 1 ⟨.running, [], some full⟩
    ((⟨.primary, 0, .none⟩ : ProtRecord).select a true false).2 = some .switched
    ∧ ((⟨.alternate, 0, .none⟩ : ProtRecord).select a false false).2 = some .restored
    ∧ ((⟨.alternate, 0, .none⟩ : ProtRecord).select a false true).2 = some .alternateFailed
    ∧ (0 : Fin 128) ≠ base.reserved ∧ u.mixClips (.mix [⟨1, 0, 0, false⟩, ⟨1, 1, 0, false⟩]) = true := by
  decide +kernel

/-- DueOccurrencesHappenAtTheirStart: each occurrence due at the start of frame 0, and none due. -/
theorem witness_due :
    (withOp (.switch 1 0 none)).operation = some (.switch 1 (base.timing.counter + 1) none)
    ∧ (withOp (.switch 1 0 none)).timing = base.timing ∧ (withOp (.switch 1 0 none)).isLapsed = false
    ∧ ((withSup (.watching 2)).withOperation (some (.switch 1 0 none))).supervision.state = .watching 2
    ∧ (lapsedBase.withOperation (some (.switch 1 0 none))).isLapsed = true
    ∧ (lapsedBase.withOperation (some (.resume 1 0))).operation = some (.resume 1 (base.timing.counter + 1))
    ∧ (lapsedBase.withOperation (some (.resume 1 0))).isLapsed = true
    ∧ (withSup (.watching 1)).supervision.state = .watching 1
    ∧ (∀ seq n, (withSup (.watching 1)).operation ≠ some (.resume seq n))
    ∧ ((withSup (.watching 1)).withOperation (some (.copy 1 .bank0 .f 3))).operation = some (.copy 1 .bank0 .f 3)
    ∧ (timing [1] [] (.holdover 1 1) .timer none).state = .holdover 1 1
    ∧ (timing [1] [] (.holdover 1 1) .timer none).source = .timer
    ∧ (withSup (.watching 1)).operation = none
    ∧ ((withSup (.watching 1)).withOperation (some (.switch 1 9 none))).operation = some (.switch 1 9 none)
    ∧ (base.withEvents { base.events with renotify := 1 }).events.interval ≠ 0
    ∧ (withOp (.switch 1 1 none)).operation = some (.switch 1 1 none) ∧ (1 : Half) ≠ base.timing.counter + 1
    ∧ 2 ≤ base.events.renotify := by
  refine ⟨rfl, rfl, rfl, rfl, rfl, rfl, rfl, rfl, fun _ _ => nofun, rfl, rfl, rfl, rfl, rfl, by decide, rfl, by decide,
    by decide⟩

theorem witness_counter :
    base.resetHeld = false ∧ sourceReady base.timing ∧ base.heldInReset.resetHeld = true
    ∧ ¬ (Instr.copyStep = .outputFrameStart ∨ Instr.copyStep = .switchActivation ∨ Instr.copyStep = .resumeActivation
      ∨ Instr.copyStep = .supervisionExpiry ∨ Instr.copyStep = .holdoverExpiry ∨ Instr.copyStep = .renotify) :=
  ⟨rfl, base_sourceReady, rfl, by decide⟩

/-- SlotsAreBuiltByMode: an input slot of the management slot, one without and one with a current frame. -/
theorem witness_input :
    base.mgmtTrunk = 0 ∧ (base.store 1).current = none
    ∧ ((base.setStore 1 ⟨.running, [], some faults⟩).store 1).current = some faults
    ∧ ¬ ((1 : Trunk) = base.mgmtTrunk ∧ (31 : Fin 32) = 31) := by decide

/-- SlotsAreBuiltByMode: the values a mix meets. -/
theorem witness_mix :
    (∃ v ∈ ([⟨1, .data⟩, ⟨2, .fault⟩] : List SlotRecord), v.qual = .data)
    ∧ (∀ v ∈ ([⟨2, .fault⟩] : List SlotRecord), v.qual ≠ .data)
    ∧ (∀ v ∈ ([⟨2, .idle⟩] : List SlotRecord), v.qual = .idle) := by decide

/-- Frame 0 of the part: the count 0, FET set since no input is aligned, FB clear, and IDLE slots, the management slot
among them. -/
theorem test_first_frame :
    exec .outputFrameStart base = .next base.frameStart
    ∧ base.frameStart.timing.counter = 0
    ∧ base.frameStart.exchange.output.map (fun o => (o.get 0).header) = some (headerWord 0 true false)
    ∧ base.frameStart.exchange.output.map (fun o => (o.get 0).slots) = some (Table.fill 32 0) := by
  refine ⟨rfl, ?_, ?_, ?_⟩ <;> decide +kernel

/-- A repeat slip at a start whose room lets a waiting RESTART in is recorded after it (R115). -/
theorem test_slipAtRestart :
    let response : Message := ⟨.response, 0, 1, 1, .ok, []⟩
    let s := (base.setStore 1 ⟨.running, [], none⟩).withChannel { base.channel with
      requests := [⟨0, 9, 0x03, [], 0⟩], held := some ⟨1, 1, response⟩, txQueue := List.replicate 8 (.response response) }
    s.frameStart.channel.cache.length = 1 ∧ s.frameStart.channel.requests = []
    ∧ (s.frameStart.record Event.slip.num).facts = (true, 1, 0x0101) := by
  refine ⟨?_, ?_, ?_⟩ <;> decide +kernel

/-! ### Trunks -/

/-- SearchAndVerifyFindAlignment: a pattern at position 0 and none; signal absent; too few bits, the pattern and its
absence at the boundary of a candidate. -/
theorem witness_search :
    (base.receiver 1).align = .search ∧ (base.receiver 1).signalPresent = true
    ∧ (base.receiver 1).held.length ≤ (base.receiver 1).received
    ∧ patternStands alignmentBits 12 0 ∧ (∀ q, 0 ≤ q → q < 0 → ¬ patternStands alignmentBits 12 q)
    ∧ (∀ q, 0 ≤ q → ¬ patternStands [] 0 q)
    ∧ ((withAlign 1 (.verify 0 1)).receiver 1).align = .verify 0 1
    ∧ (0 + 0 < 612 * 1 + 12) ∧ patternStands alignmentBits 624 (0 + 612 * 1)
    ∧ (0 + 612 * 1 + 12 ≤ 624 ∧ ¬ patternStands [] 624 (0 + 612 * 1)) := by
  refine ⟨by decide, by decide, by decide, ⟨[], [], rfl, rfl⟩, fun q _ h => absurd h (Nat.not_lt_zero q), ?_, by decide,
    by decide, ⟨[], [], rfl, rfl⟩, by decide, ?_⟩
  · rintro q _ ⟨a, b, _, h⟩
    omega
  · rintro ⟨a, b, h, _⟩
    have := congrArg List.length h
    simp [alignmentBits] at this

/-- MissesAndSignalLossEndAlignment: miss counts 2 and 3; a receiver that is not LOCKED; the signal in each state. -/
theorem witness_misses :
    ((withAlign 1 (.locked 0 2 none)).receiver 1).align = .locked 0 2 none ∧ 2 < 3 ∧ 3 ≤ 3 ∧ (0 : BitVec 12) ≠ 0xD2B
    ∧ (∀ c miss rem, (base.receiver 1).align ≠ .locked c miss rem)
    ∧ ((withAlign 1 .disabled).receiver 1).align = .disabled
    ∧ ((withAlign 1 (.locked 0 3 none)).receiver 1).signalPresent = true
    ∧ ((base.setReceiver 1 { base.receiver 1 with signalPresent := false }).receiver 1).signalPresent = false := by
  refine ⟨by decide, by decide, by decide, by decide, fun _ _ _ => nofun, by decide, by decide, by decide⟩

/-- A frame of IDLE slots with count 3 and FET set. -/
def goodFrame : WireFrame := sentFrame 3 true false (Table.fill 32 ⟨0, .idle⟩)

/-- The same frame with another check. -/
def badFrame : WireFrame :=
  { goodFrame with trailer := trailerWord (frameCheck goodFrame.header goodFrame.slots + 1) }

theorem trailerCheck_trailerWord (c : Half) : trailerCheck (trailerWord c) = c := by
  unfold trailerCheck trailerWord
  apply BitVec.eq_of_toNat_eq
  rw [BitVec.extractLsb'_toNat, BitVec.toNat_append]
  have := c.isLt
  simp [Nat.shiftLeft_eq, Nat.shiftRight_eq_div_pow]
  omega

/-- DeliveryReachesItsNeighbours: a trusted frame with a rise of FET and one with a failed check; each phase of the store,
one of them full; the trunk as the source. -/
theorem witness_delivery :
    checkPasses goodFrame = true ∧ headerPattern goodFrame.header = 0xD2B ∧ headerFet goodFrame.header = true
    ∧ (base.receiver 1).lastFet = false ∧ checkPasses badFrame = false := by
  refine ⟨?_, by decide, by decide, by decide, ?_⟩
  · show (frameCheck _ _ == trailerCheck (trailerWord _)) = true
    rw [trailerCheck_trailerWord]
    exact beq_self_eq_true _
  · show (frameCheck _ _ == trailerCheck (trailerWord (_ + 1))) = false
    rw [trailerCheck_trailerWord]
    show (frameCheck goodFrame.header goodFrame.slots == frameCheck goodFrame.header goodFrame.slots + 1) = false
    generalize frameCheck goodFrame.header goodFrame.slots = c
    simp

theorem witness_deliveryStores :
    (base.store 1).phase = .idle ∧ ((base.setStore 1 ⟨.priming, [], none⟩).store 1).queue = []
    ∧ ((base.setStore 1 ⟨.priming, [faults], none⟩).store 1).queue = [faults]
    ∧ 3 ≤ ((base.setStore 1 ⟨.running, [faults, faults, faults], none⟩).store 1).queue.length
    ∧ ((base.setStore 1 ⟨.running, [faults, faults], none⟩).store 1).queue.length < 3 := by
  decide

/-- DeliveryReachesItsNeighbours: the trunk is the source; another is; the 64th delivery of a trunk on the list; the first
delivery of a hand-over long after the last start and at it, and the second. -/
theorem witness_handOver :
    let source := timing [1] [1] (.tracking 1) (.trunk 1) none
    let sixtyFourth : Timing := { timing [1] [] .freeRun .timer none with delivered := Table.fill 4 63 }
    (∀ soon, source.handOver ≠ some ⟨1, soon⟩) ∧ source.source = .trunk 1 ∧ ¬ sourceStopped source
    ∧ (timing [1] [1] (.tracking 1) .timer (some ⟨1, false⟩)).source ≠ .trunk 2
    ∧ sixtyFourth.delivered.get 1 = 63 ∧ (1 : Trunk) ∈ sixtyFourth.refList
    ∧ (timing [1] [1] (.tracking 1) .timer (some ⟨1, false⟩)).handOver = some ⟨1, false⟩
    ∧ (timing [1] [1] (.tracking 1) .timer (some ⟨1, true⟩)).handOver = some ⟨1, true⟩ := by
  refine ⟨fun _ => nofun, rfl, ?_, by decide, by decide, by decide, rfl, rfl⟩
  rintro ⟨_, h⟩
  cases h

/-- The delay from a delivery to its start is below half a period in each profile, whatever its value (R119), so a first
delivery of a hand-over at the moment of the last start is too soon, and one half a period after it is not. -/
theorem witness_tooSoon :
    2 * (Config.startDelay .k8).val < framePeriod base ∧ framePeriod base ≤ 2 * (2448 + (Config.startDelay .k8).val) := by
  have h : (Config.startDelay .k8).val < 145 := (Config.startDelay .k8).isLt
  have p : framePeriod base = 4896 := rfl
  omega

/-- A part that has collected a SET_REFERENCE for trunk 0, its management trunk, all trunks being qualified. -/
def atRequest : State :=
  (base.withTiming { base.timing with now := 9000, delivered := Table.fill 4 64 }).withChannel
    { base.channel with assembler := .collect (requestWords ⟨0, 9, 0x2A, [1, 0], requestCheck 0 9 0x2A 0 [1, 0]⟩ 0 0) }

/-- A SET_REFERENCE whose last word comes with a delivery on the management trunk begins the hand-over with that delivery
(R127). -/
theorem test_handOverBeginsAtItsDelivery :
    (((atRequest.countDelivery 0).takeWord ⟨0, .idle⟩).followDelivery 0).timing.source = .trunk 0 := by
  have h : ((atRequest.countDelivery 0).takeWord ⟨0, .idle⟩).timing =
      { base.timing with
        state := .tracking 0, refList := [0], now := 9000, delivered := Table.fill 4 64, handOver := some ⟨0, false⟩ } := by
    decide +kernel
  have q : ((atRequest.countDelivery 0).takeWord ⟨0, .idle⟩).profile = .k8 := by decide +kernel
  have p : Config.nominalPeriod .k8 ≤ 2 * (9000 + (Config.startDelay .k8).val) := by
    have : Config.nominalPeriod .k8 = 4896 := rfl
    omega
  have l : base.timing.lastStart = 0 := rfl
  unfold State.followDelivery
  rw [h, q]
  simp [Timing.takeDelivery, Timing.startMoment, Timing.handOverTo, l, p]

/-! ### Messages -/

/-- AssemblerTakesWords: each state and word; 31 and 32 words collected; a message with a wrong length, one with a wrong
check, one of a wrong kind, and a good one (IDENTIFY to unit 0). -/
theorem witness_assembler :
    base.channel.assembler = .gap ∧ (List.replicate 31 (0 : Half)).length < 32
    ∧ 32 ≤ (List.replicate 32 (0 : Half)).length
    ∧ ¬ (3 ≤ ([0, 0] : List Half).length)
    ∧ crcOctets ((wordOctets [0x0007, 0x0100, 0x0000, 0x0000]).take 5)
        ≠ halfAt (wordOctets [0x0007, 0x0100, 0x0000, 0x0000]) 5
    ∧ ¬ (byteAt (wordOctets [0x4007]) 0).toNat < 64 ∧ (byteAt (wordOctets [0x0F07]) 0).toNat < 64
    ∧ State.judge (requestWords ⟨0, 7, 1, [], requestCheck 0 7 1 0xAA []⟩ 0xAA 0x55) =
        .ok ⟨0, 7, 1, [], requestCheck 0 7 1 0xAA []⟩ := by
  decide +kernel

theorem witness_request (p : List Byte) (h : p.length = 56) :
    ∃ r : Request, r.payload.length ≤ 56 ∧ r.check = requestCheck r.unit r.seq r.code 0 r.payload := by
  refine ⟨⟨0, 7, 1, p, requestCheck 0 7 1 0 p⟩, h.le, ?_⟩
  with_reducible rfl

/-- RequestSentWordByWordArrives: the request of a command, to the part out of reset. -/
theorem witness_requestCommand :
    bringsRequest (.identify head []) head 0x01 [] ∧ base.resetHeld = false := ⟨.inl ⟨.identify, rfl, rfl⟩, rfl⟩

theorem witness_requestPayload : ∃ p : List Byte, p.length = 56 := ⟨List.replicate 56 0, List.length_replicate⟩

/-- TransmitterChoosesAndSends: one kind in the queue and both, the streak at 3 and at 4; the first, the last word. -/
theorem witness_choice :
    let n : TxItem := .notice 0 ⟨.notice, 0, 0, 0, .ok, [0, 0, 0, 0, 0]⟩
    let r : TxItem := .response waiting
    State.choose [] 0 = none ∧ State.choose [r] 4 = some (r, 0) ∧ State.choose [n] 4 = some (n, 0)
    ∧ State.choose [n, r] 3 = some (r, 4) ∧ State.choose [r, n] 4 = some (n, 0)
    ∧ n.message.words.length = 6 ∧ 4 + 1 < n.message.words.length ∧ n.message.words.length ≤ 5 + 1
    ∧ r.message.words.length = 4 := by
  decide +kernel

theorem witness_sentNotice :
    let s := base.withEvents (base.events.setRecord 0 ⟨true, 1, 0, .queued⟩)
    (s.record 0).notice = .queued ∧ (base.record 0).notice ≠ .queued := by
  decide

/-! ### Invariants -/

/-- The state after reset meets what the law of R46 is stated over. -/
theorem witness_protectionLaw : base.ControlSound ∧ base.ProtectionSound where
  left := ⟨⟨by decide, rfl⟩, trivial⟩
  right :=
    { offRest := fun i h => absurd (show base.protection.get i = .rest from Table.get_fill ..) h
      frameLive := fun _ => nofun
      frameBefore := fun _ => nofun
      firstFrame := fun _ _ i => Table.get_fill .. }

theorem witness_invariants : ∃ t, step (base.withPending [.resetNLow 0]) = .next t := ⟨_, rfl⟩

end Sys2Proof.Tests
end

section
/-!
The output slots by the mode of their entry (R30 to R36, R47): what the arithmetic on samples computes in exact integers,
what an input slot reads as, and what each entry mode makes of it.
-/

namespace Sys2Proof.Machine

/-! ### Samples as integers (R31, R35) -/

/-- The exact negative, but for −32768, whose negative does not fit and is cut to 32767. -/
theorem toInt_negateSample (x : Half) : (negateSample x).toInt = min 32767 (-x.toInt) := by
  unfold negateSample
  split
  next h => subst h; decide
  next h =>
    have hneg : (-x).toInt = -x.toInt := BitVec.toInt_neg_of_ne_intMin h
    have hlt : (-x).toInt < 32768 := BitVec.toInt_lt
    omega

/-- An arithmetic shift is a division that rounds toward minus infinity. -/
theorem toInt_sshiftRight_eq_ediv (x : Half) (n : Nat) : (x.sshiftRight n).toInt = x.toInt / 2 ^ n := by
  rw [BitVec.toInt_sshiftRight, Int.shiftRight_eq_div_pow, Nat.cast_pow, Nat.cast_ofNat]

theorem Term.toInt_scale (t : Term) (x : Half) :
    (t.scale x).toInt =
      if t.invert then min 32767 (-(x.toInt / 2 ^ t.shift.val)) else x.toInt / 2 ^ t.shift.val := by
  unfold Term.scale
  cases t.invert with
  | false => exact toInt_sshiftRight_eq_ediv x t.shift.val
  | true => exact (toInt_negateSample _).trans (by rw [toInt_sshiftRight_eq_ediv]; rfl)

theorem toInt_saturate (x : Int) : (saturate x).toInt = max (-32768) (min 32767 x) := by
  apply BitVec.toInt_ofInt_eq_self (by decide) <;> omega

theorem overflows_iff (x : Int) : overflows x = true ↔ x < -32768 ∨ 32767 < x := by
  simp only [overflows, Bool.or_eq_true, decide_eq_true_eq]

/-! ### Mixes of term values (R35, R36) -/

/-- A term that is not DATA contributes 0, so the contributions add up to the sum of the DATA samples. -/
theorem mixSum_eq_sum_data (vs : List SlotRecord) :
    mixSum vs = ((vs.filter fun v => v.qual == .data).map fun v => v.sample.toInt).sum := by
  induction vs with
  | nil => rfl
  | cons v vs ih =>
    have hcons : mixSum (v :: vs) = contribution v + mixSum vs := List.sum_cons
    by_cases h : v.qual = .data <;> simp [hcons, ih, contribution, h]

theorem mixSlot_of_data {vs : List SlotRecord} (h : ∃ v ∈ vs, v.qual = .data) :
    mixSlot vs = ⟨saturate (mixSum vs), .data⟩ :=
  if_pos (by simpa using h)

theorem mixSlot_of_fault {vs : List SlotRecord} (hdata : ∀ v ∈ vs, v.qual ≠ .data)
    (hfault : ∃ v ∈ vs, v.qual = .fault) : mixSlot vs = ⟨0, .fault⟩ :=
  (if_neg (by simpa using hdata)).trans (if_pos (by simpa using hfault))

theorem mixSlot_of_idle {vs : List SlotRecord} (h : ∀ v ∈ vs, v.qual = .idle) : mixSlot vs = ⟨0, .idle⟩ := by
  have hdata : ∀ v ∈ vs, v.qual ≠ .data := fun v hv => by simp [h v hv]
  have hfault : ∀ v ∈ vs, v.qual ≠ .fault := fun v hv => by simp [h v hv]
  exact (if_neg (by simpa using hdata)).trans (if_neg (by simpa using hfault))

/-! ### Qualifiers and protection states (R30, R49) -/

theorem Qual.read_cases (q : Qual) : q.read = .data ∨ q.read = .idle ∨ q.read = .fault := by
  cases q <;> decide

theorem ProtRecord.usesAlternate_iff (r : ProtRecord) :
    r.usesAlternate = true ↔ r.state = .alternate ∨ r.state = .restoring := by
  simp only [ProtRecord.usesAlternate, Bool.or_eq_true, beq_iff_eq]

namespace State

variable (s : State)

/-! ### Input slots and term values (R30, R31, R47) -/

theorem readInput_management : s.readInput s.mgmtTrunk 31 = ⟨0, .fault⟩ := if_pos ⟨rfl, rfl⟩

theorem readInput_of_noFrame {t : Trunk} (slot : Fin 32) (h : (s.store t).current = none) :
    s.readInput t slot = ⟨0, .fault⟩ := by
  simp only [readInput, h, ite_self]

theorem readInput_of_frame {t : Trunk} {slot : Fin 32} {fr : FrameRecord} (h : (s.store t).current = some fr)
    (hslot : ¬ (t = s.mgmtTrunk ∧ slot = 31)) :
    s.readInput t slot = ⟨(fr.get slot).sample, (fr.get slot).qual.read⟩ := by
  simp only [readInput, h, if_neg hslot]

/-- Every read gives one of three qualifiers: FAULT for a slot without a frame, else a qualifier with the fourth code read
as FAULT. -/
theorem readInput_qual_cases (t : Trunk) (slot : Fin 32) :
    (s.readInput t slot).qual = .data ∨ (s.readInput t slot).qual = .idle ∨ (s.readInput t slot).qual = .fault := by
  by_cases hslot : t = s.mgmtTrunk ∧ slot = 31
  · obtain ⟨rfl, rfl⟩ := hslot
    simp [readInput_management]
  · cases hcur : (s.store t).current with
    | none => simp [readInput_of_noFrame s slot hcur]
    | some fr => simpa only [readInput_of_frame s hcur hslot] using Qual.read_cases _

theorem termFails_iff (t : Term) : s.termFails t = true ↔ (s.readInput t.trunk t.slot).qual = .fault := beq_iff_eq

@[simp] theorem termValue_qual (t : Term) : (s.termValue t).qual = (s.readInput t.trunk t.slot).qual := rfl

theorem toInt_termValue_sample (t : Term) :
    (s.termValue t).sample.toInt =
      if t.invert then min 32767 (-((s.readInput t.trunk t.slot).sample.toInt / 2 ^ t.shift.val))
      else (s.readInput t.trunk t.slot).sample.toInt / 2 ^ t.shift.val :=
  t.toInt_scale _

/-! ### Protected routes (R34) -/

theorem trafficSlot_protected_alternate (p : Term) (a : Alternate) {r : ProtRecord}
    (h : r.state = .alternate ∨ r.state = .restoring) :
    s.trafficSlot (.route p (some a)) r = s.termValue a.term :=
  if_pos (r.usesAlternate_iff.mpr h)

theorem trafficSlot_protected_primary (p : Term) (a : Alternate) {r : ProtRecord}
    (h : r.state = .primary ∨ r.state = .failing) :
    s.trafficSlot (.route p (some a)) r = s.termValue p := by
  have hstay : ¬ r.usesAlternate = true := by
    rw [r.usesAlternate_iff]
    rcases h with h | h <;> simp [h]
  exact if_neg hstay

end State

end Sys2Proof.Machine

open Sys2Proof Sys2Proof.Machine

/-- Settles O49: each clause is the rule of its operation, with the samples read as integers. -/
theorem slotsAreBuiltByMode : Obligations.SlotsAreBuiltByMode := by
  intro s r
  refine ⟨fun t => ⟨s.termValue_qual t, fun h => ?plain, fun h => ?inverted⟩,
    fun t slot => ⟨?management, s.readInput_of_noFrame slot, fun fr hcur hslot => ?frame⟩, s.termFails_iff,
    fun t a => ⟨s.trafficSlot_protected_alternate t a, s.trafficSlot_protected_primary t a⟩,
    rfl, fun _ => ⟨rfl, rfl⟩, fun _ => rfl,
    fun ts => ⟨fun h => ?data, mixSlot_of_fault, mixSlot_of_idle, ?quals, ?clips⟩⟩
  case plain => simpa only [h, Bool.false_eq_true, if_false] using s.toInt_termValue_sample t
  case inverted => simpa only [h, if_true] using s.toInt_termValue_sample t
  case management =>
    rintro rfl rfl
    exact s.readInput_management
  case frame =>
    rw [s.readInput_of_frame hcur hslot]
    cases (fr.get slot).qual <;> rfl
  case data =>
    have hslot : s.trafficSlot (.mix ts) r = ⟨saturate (mixSum (ts.map s.termValue)), .data⟩ := mixSlot_of_data h
    rw [hslot, ← mixSum_eq_sum_data]
    exact ⟨rfl, toInt_saturate _⟩
  case quals =>
    intro v hv
    obtain ⟨t, -, rfl⟩ := List.mem_map.mp hv
    exact s.readInput_qual_cases t.trunk t.slot
  case clips =>
    rw [← mixSum_eq_sum_data]
    exact overflows_iff _

end

section
/-!
Source protection (R50 to R55): what selection makes of one record. A record in PRIMARY is evaluated like one in FAILING
that has counted nothing yet, and one in ALTERNATE, unless it is non-revertive, like one in RESTORING that has counted
nothing yet; so the rules of the two counting states carry all four.
-/

namespace Sys2Proof.Machine.ProtRecord

variable (r : ProtRecord) (a : Alternate) (fails altFails : Bool)

/-! ### The hold-off (R50, R51) -/

theorem evalFailing_of_healthy : r.evalFailing a false altFails = (r.goes .primary 0, none) := rfl

theorem evalFailing_of_lt {a : Alternate} (h : r.count + 1 < a.holdOff) :
    r.evalFailing a true altFails = (r.goes .failing (r.count + 1), none) := by
  simp [evalFailing, h]

theorem evalFailing_of_le {a : Alternate} (h : a.holdOff ≤ r.count + 1) :
    r.evalFailing a true altFails = r.holdOffOver a.holdOff altFails := by
  simp [evalFailing, h]

theorem evalFailing_moves {a : Alternate} (h : a.holdOff ≤ r.count + 1) :
    r.evalFailing a true false = (r.goes .alternate 0, some .switched) :=
  r.evalFailing_of_le false h

theorem evalFailing_waits {a : Alternate} (h : a.holdOff ≤ r.count + 1) :
    r.evalFailing a true true = (r.goes .failing a.holdOff, none) :=
  r.evalFailing_of_le true h

/-- A failing primary counts its first frame against the hold-off, which that frame alone reaches if it is 1 (R50). -/
theorem evalPrimary_eq_evalFailing {a : Alternate} (h : 1 ≤ a.holdOff) :
    r.evalPrimary a fails altFails = (r.goes .failing 0).evalFailing a fails altFails := by
  cases fails with
  | false => rfl
  | true =>
    rcases h.lt_or_eq with hlt | heq
    · rw [evalFailing_of_lt _ altFails hlt]
      simp [evalPrimary, hlt, goes]
    · rw [evalFailing_of_le _ altFails heq.ge, ← heq]
      simp [evalPrimary, ← heq, holdOffOver, goes]

theorem holdOffOver_state_ne_restoring (holdOff : Nat) : (r.holdOffOver holdOff altFails).1.state ≠ .restoring := by
  cases altFails <;> exact nofun

theorem evalPrimary_state_ne_restoring : (r.evalPrimary a fails altFails).1.state ≠ .restoring := by
  unfold evalPrimary
  split
  · exact nofun
  · split
    · exact nofun
    · exact r.holdOffOver_state_ne_restoring altFails 1

theorem evalFailing_state_ne_restoring : (r.evalFailing a fails altFails).1.state ≠ .restoring := by
  unfold evalFailing
  split
  · exact nofun
  · split
    · exact nofun
    · exact r.holdOffOver_state_ne_restoring altFails a.holdOff

/-! ### The wait-to-restore (R52, R53) -/

theorem evalRestoring_of_alternateFailed :
    r.evalRestoring a false true = (r.goes .primary 0, some .alternateFailed) := rfl

theorem evalRestoring_of_failing : r.evalRestoring a true altFails = (r.goes .alternate 0, none) := rfl

theorem evalRestoring_of_lt {a : Alternate} (h : r.count + 1 < a.waitToRestore) :
    r.evalRestoring a false false = (r.goes .restoring (r.count + 1), none) := by
  simp [evalRestoring, h]

theorem evalRestoring_of_le {a : Alternate} (h : a.waitToRestore ≤ r.count + 1) :
    r.evalRestoring a false false = (r.goes .primary 0, some .restored) := by
  simp [evalRestoring, h]

theorem evalAlternate_of_alternateFailed :
    r.evalAlternate a false true = (r.goes .primary 0, some .alternateFailed) := rfl

/-- A failing primary keeps the slot on its alternate, whatever the alternate's own health (R52 cases 2 and 5). -/
theorem evalAlternate_of_failing : r.evalAlternate a true altFails = (r.goes .alternate 0, none) := by
  simp [evalAlternate]

/-- A non-revertive slot stays on its alternate while that is not FAULT (R52 case 2). -/
theorem evalAlternate_of_nonRevertive {a : Alternate} (h : a.waitToRestore = 0) :
    r.evalAlternate a fails false = (r.goes .alternate 0, none) := by
  simp [evalAlternate, h]

/-- A healthy primary counts its first frame against the wait-to-restore, which that frame alone meets if it is 1
(R52 cases 3 and 4). -/
theorem evalAlternate_eq_evalRestoring {a : Alternate} (h : 1 ≤ a.waitToRestore) :
    r.evalAlternate a fails altFails = (r.goes .restoring 0).evalRestoring a fails altFails := by
  cases fails with
  | true => exact r.evalAlternate_of_failing a altFails
  | false =>
    cases altFails with
    | true => rfl
    | false =>
      have hpos : a.waitToRestore ≠ 0 := Nat.ne_of_gt h
      rcases h.lt_or_eq with hlt | heq
      · rw [evalRestoring_of_lt _ hlt]
        simp [evalAlternate, hpos, hlt.ne', goes]
      · rw [evalRestoring_of_le _ heq.ge]
        simp [evalAlternate, ← heq, goes]

/-! ### How a record comes to be in RESTORING (R52, R53) -/

variable {r a fails altFails}

/-- RESTORING is kept only by counting a frame that leaves the count below the wait-to-restore (R53 case 4). -/
theorem evalRestoring_counts (h : (r.evalRestoring a fails altFails).1.state = .restoring) :
    r.count + 1 < a.waitToRestore ∧ (r.evalRestoring a fails altFails).1.count = r.count + 1 := by
  cases fails with
  | true => exact nomatch h
  | false =>
    cases altFails with
    | true => exact nomatch h
    | false =>
      rcases lt_or_ge (r.count + 1) a.waitToRestore with hlt | hge
      · exact ⟨hlt, by rw [r.evalRestoring_of_lt hlt]; rfl⟩
      · rw [r.evalRestoring_of_le hge] at h
        exact nomatch h

/-- ALTERNATE is left for RESTORING only with a wait-to-restore that the first counted frame does not meet (R52 case
4). -/
theorem evalAlternate_counts (h : (r.evalAlternate a fails altFails).1.state = .restoring) :
    2 ≤ a.waitToRestore ∧ (r.evalAlternate a fails altFails).1.count = 1 := by
  rcases a.waitToRestore.eq_zero_or_pos with hzero | hpos
  · cases fails with
    | true =>
      rw [r.evalAlternate_of_failing] at h
      exact nomatch h
    | false =>
      cases altFails with
      | true => exact nomatch h
      | false =>
        rw [r.evalAlternate_of_nonRevertive false hzero] at h
        exact nomatch h
  · rw [r.evalAlternate_eq_evalRestoring fails altFails hpos] at h ⊢
    exact evalRestoring_counts h

/-- Selection leaves a record in RESTORING only out of ALTERNATE or RESTORING, with a count below the wait-to-restore. -/
theorem select_restoring (h : (r.select a fails altFails).1.state = .restoring) :
    (r.state = .alternate ∧ 2 ≤ a.waitToRestore ∨ r.state = .restoring)
      ∧ (r.select a fails altFails).1.count < a.waitToRestore := by
  obtain ⟨st, count, command⟩ := r
  cases command with
  | lockPrimary => exact nomatch h
  | forceAlternate => exact nomatch h
  | none =>
    cases st with
    | primary => exact absurd h (evalPrimary_state_ne_restoring _ a fails altFails)
    | failing => exact absurd h (evalFailing_state_ne_restoring _ a fails altFails)
    | alternate =>
      obtain ⟨hw, hcount⟩ := evalAlternate_counts h
      exact ⟨.inl ⟨rfl, hw⟩, hcount.trans_lt hw⟩
    | restoring =>
      obtain ⟨hlt, hcount⟩ := evalRestoring_counts h
      exact ⟨.inr rfl, hcount.trans_lt hlt⟩

/-! ### Commands (R55, R57) -/

/-- Selection keeps the record that a command other than NONE has set. -/
theorem select_commanded (r : ProtRecord) (a : Alternate) (fails altFails : Bool) {c : ProtCommand} (hc : c ≠ .none) :
    (r.commanded c).select a fails altFails = (r.commanded c, none) := by
  cases c with
  | none => exact absurd rfl hc
  | lockPrimary => rfl
  | forceAlternate => rfl

end Sys2Proof.Machine.ProtRecord

open Sys2Proof Sys2Proof.Machine

/-- Settles O28: both states count by the rules of FAILING, PRIMARY from 0. -/
theorem holdOffMovesToTheAlternate : Obligations.HoldOffMovesToTheAlternate := by
  intro count a altFails hHold primary failing moved waits
  have hPrimary (fails altFails : Bool) :
      primary.select a fails altFails = (primary.goes .failing 0).evalFailing a fails altFails :=
    primary.evalPrimary_eq_evalFailing fails altFails hHold
  refine ⟨?primaryHealthy, fun hlt => ?primaryCounts, fun hone halt => ?primaryMoves, fun hone halt => ?primaryWaits,
    failing.evalFailing_of_healthy a altFails, failing.evalFailing_of_lt altFails, fun hle halt => ?moves,
    fun hle halt => ?waits, fun _ => rfl, rfl, rfl, rfl⟩
  case primaryHealthy => exact (hPrimary false altFails).trans (ProtRecord.evalFailing_of_healthy _ a altFails)
  case primaryCounts => exact (hPrimary true altFails).trans (ProtRecord.evalFailing_of_lt _ altFails hlt)
  case primaryMoves =>
    subst halt
    exact (hPrimary true false).trans (ProtRecord.evalFailing_moves _ hone.le)
  case primaryWaits =>
    subst halt
    have hwaits : primary.select a true true = waits a.holdOff :=
      (hPrimary true true).trans (ProtRecord.evalFailing_waits _ hone.le)
    rwa [hone] at hwaits
  case moves =>
    subst halt
    exact failing.evalFailing_moves hle
  case waits =>
    subst halt
    exact failing.evalFailing_waits hle

/-- Settles O29: both states count by the rules of RESTORING, a revertive ALTERNATE from 0. -/
theorem waitToRestoreMovesBack : Obligations.WaitToRestoreMovesBack := by
  intro count a altFails alternate restoring w reverts stays counts
  have hAlternate (h : 1 ≤ w) :
      alternate.select a false false = (alternate.goes .restoring 0).evalRestoring a false false :=
    alternate.evalAlternate_eq_evalRestoring false false h
  exact ⟨alternate.evalAlternate_of_alternateFailed a,
    fun hzero => ⟨alternate.evalAlternate_of_failing a altFails, alternate.evalAlternate_of_nonRevertive false hzero⟩,
    fun hone => (hAlternate hone.ge).trans (ProtRecord.evalRestoring_of_le _ hone.le),
    fun htwo => (hAlternate (Nat.le_of_succ_le htwo)).trans (ProtRecord.evalRestoring_of_lt _ htwo),
    fun _ => alternate.evalAlternate_of_failing a altFails,
    restoring.evalRestoring_of_alternateFailed a,
    restoring.evalRestoring_of_failing a altFails,
    fun heq => restoring.evalRestoring_of_le heq.ge,
    restoring.evalRestoring_of_lt,
    fun _ => rfl, rfl, fun _ => rfl,
    fun _ _ => ProtRecord.select_restoring,
    rfl⟩

/-- Settles O30: each record is the one that its command sets, which selection keeps. -/
theorem commandOverridesEvaluation : Obligations.CommandOverridesEvaluation := by
  intro a fails altFails locked forced
  exact ⟨ProtRecord.rest.select_commanded a fails altFails (c := .lockPrimary) nofun, rfl,
    ProtRecord.rest.select_commanded a fails altFails (c := .forceAlternate) nofun, rfl⟩

end

section
/-!
The management channel's sender (R132, R146 to R148, R174): the octets of a message as its words carry them, the message
the transmitter chooses, and its move at an output frame start.
-/

namespace Sys2Proof.Machine

/-! ### Octets and words (R131, R132) -/

theorem octets_append (a b : Byte) : octets (a ++ b) = [a, b] := by
  simp only [octets, BitVec.extractLsb'_append_eq_left, BitVec.extractLsb'_append_eq_right]

theorem length_wordOctets (ws : List Half) : (wordOctets ws).length = 2 * ws.length := by
  induction ws with
  | nil => rfl
  | cons w ws ih =>
    have hcons : wordOctets (w :: ws) = octets w ++ wordOctets ws := rfl
    have hw : (octets w).length = 2 := rfl
    rw [hcons, List.length_append, ih, hw, List.length_cons]
    omega

/-- The pad octet that octets odd in number are followed by (R132). -/
def padOctets (o : List Byte) : List Byte := if o.length % 2 = 1 then [0] else []

theorem padOctets_cons_cons (a b : Byte) (o : List Byte) : padOctets (a :: b :: o) = padOctets o := by
  simp only [padOctets, List.length_cons, Nat.add_assoc, Nat.reduceAdd, Nat.add_mod_right]

theorem wordOctets_packWords (o : List Byte) : wordOctets (packWords o) = o ++ padOctets o := by
  induction o using packWords.induct with
  | case1 => rfl
  | case2 a => exact octets_append a 0
  | case3 a b rest ih =>
    calc wordOctets (packWords (a :: b :: rest))
        = octets (a ++ b) ++ wordOctets (packWords rest) := rfl
      _ = a :: b :: (rest ++ padOctets rest) := by rw [octets_append, ih]; rfl
      _ = a :: b :: rest ++ padOctets (a :: b :: rest) := by rw [padOctets_cons_cons]; rfl

theorem byteAt_append_length (l o : List Byte) (i : Nat) : byteAt (l ++ o) (l.length + i) = byteAt o i := by
  rw [byteAt, List.getD_append_right _ _ _ _ (Nat.le_add_right ..), Nat.add_sub_cancel_left]
  rfl

theorem halfAt_append_octets (l o : List Byte) (x : Half) : halfAt (l ++ (octets x ++ o)) l.length = x := by
  have hhigh : byteAt (l ++ (octets x ++ o)) l.length = x.extractLsb' 8 8 := byteAt_append_length l _ 0
  have hlow : byteAt (l ++ (octets x ++ o)) (l.length + 1) = x.extractLsb' 0 8 := byteAt_append_length l _ 1
  rw [halfAt, hhigh, hlow]
  exact BitVec.extractLsb'_append_extractLsb' (w := 8) (len := 8)

/-! ### The octets of a message (R132, R151, R184) -/

theorem toNat_kindOctet (k : MsgKind) (u : BitVec 4) :
    (k.code ++ (0#2) ++ u : Byte).toNat = 64 * k.code.toNat + u.toNat := by
  have hkind : (k.code ++ 0#2).toNat = 4 * k.code.toNat := by
    rw [BitVec.toNat_append, Nat.shiftLeft_eq, Nat.mul_comm]
    exact Nat.or_zero _
  calc (k.code ++ (0#2) ++ u : Byte).toNat
      = (k.code ++ 0#2).toNat <<< 4 ||| u.toNat := BitVec.toNat_append ..
    _ = (k.code ++ 0#2).toNat <<< 4 + u.toNat := (Nat.shiftLeft_add_eq_or_of_lt u.isLt _).symm
    _ = 64 * k.code.toNat + u.toNat := by rw [hkind, Nat.shiftLeft_eq]; omega

theorem Status.toNat_code (st : Status) : st.code.toNat = statusNumber st := by
  cases st <;> rfl

namespace Message

variable (m : Message)

theorem length_body : m.body.length = 5 + m.payload.length := by
  simp only [body, List.length_cons]
  omega

theorem length_octets : m.octets.length = 7 + m.payload.length := by
  have hcheck : (Machine.octets (crcOctets m.body)).length = 2 := rfl
  rw [octets, List.length_append, length_body, hcheck]
  omega

/-- The words carry the body, the check and the pad octet, if one is needed. -/
theorem wordOctets_words :
    wordOctets m.words = m.body ++ (Machine.octets (crcOctets m.body) ++ padOctets m.octets) := by
  rw [words, wordOctets_packWords, ← List.append_assoc]
  rfl

theorem byteAt_wordOctets_words {i : Nat} (h : i < 5 + m.payload.length) :
    byteAt (wordOctets m.words) i = byteAt m.body i := by
  rw [wordOctets_words]
  exact List.getD_append _ _ _ _ (m.length_body.symm ▸ h)

theorem length_wordOctets_words : (wordOctets m.words).length = 7 + m.payload.length + (padOctets m.octets).length := by
  rw [words, wordOctets_packWords, List.length_append, length_octets]

/-- A message has more than one word, so its first word is never its last. -/
theorem one_lt_length_words : 1 < m.words.length := by
  have h := length_wordOctets m.words
  rw [length_wordOctets_words] at h
  omega

theorem padOctets_of_odd (h : m.payload.length % 2 = 1) : padOctets m.octets = [] :=
  if_neg (by rw [length_octets]; omega)

theorem padOctets_of_even (h : m.payload.length % 2 = 0) : padOctets m.octets = [0] :=
  if_pos (by rw [length_octets]; omega)

theorem payload_of_wordOctets_words : ((wordOctets m.words).drop 5).take m.payload.length = m.payload := by
  rw [wordOctets_words]
  exact List.take_left

theorem check_of_wordOctets_words :
    halfAt (wordOctets m.words) (5 + m.payload.length) =
      crcOctets ((wordOctets m.words).take (5 + m.payload.length)) := by
  rw [wordOctets_words, ← length_body, halfAt_append_octets, List.take_left]

theorem pad_of_wordOctets_words (h : m.payload.length % 2 = 0) :
    byteAt (wordOctets m.words) (7 + m.payload.length) = 0 := by
  rw [words, wordOctets_packWords, ← length_octets, padOctets_of_even m h]
  exact byteAt_append_length m.octets [0] 0

end Message

namespace State

/-! ### The choice among waiting messages (R148) -/

section Choice

variable {q : List TxItem} {streak : Nat} {r n : TxItem}

theorem find?_oldest {p : TxItem → Bool} {x : TxItem} {older rest : List TxItem} (hx : p x = true)
    (holder : ∀ y ∈ older, p y = false) : (older ++ x :: rest).find? p = some x :=
  List.find?_eq_some_iff_append.mpr ⟨hx, older, rest, rfl, fun y hy => by rw [holder y hy]; rfl⟩

theorem choose_of_responses (hr : q.find? (fun it => !it.isNotice) = some r) (h : ∀ x ∈ q, x.isNotice = false) :
    choose q streak = some (r, 0) := by
  have hnone : q.find? TxItem.isNotice = none := List.find?_eq_none.mpr fun x hx => by simp [h x hx]
  simp only [choose, hr, hnone]

theorem choose_of_notices (hn : q.find? TxItem.isNotice = some n) (h : ∀ x ∈ q, x.isNotice = true) :
    choose q streak = some (n, 0) := by
  have hnone : q.find? (fun it => !it.isNotice) = none := List.find?_eq_none.mpr fun x hx => by simp [h x hx]
  simp only [choose, hn, hnone]

/-- With both kinds waiting, a response goes first until the streak is 4. -/
theorem choose_response_of_both (hr : q.find? (fun it => !it.isNotice) = some r) (h : ∃ x ∈ q, x.isNotice = true)
    (hstreak : streak < 4) : choose q streak = some (r, streak + 1) := by
  obtain ⟨n, hn⟩ := Option.isSome_iff_exists.mp (List.find?_isSome.mpr h)
  simp only [choose, hr, hn, if_pos hstreak]

theorem choose_notice_of_both (hn : q.find? TxItem.isNotice = some n) (h : ∃ x ∈ q, x.isNotice = false)
    (hstreak : 4 ≤ streak) : choose q streak = some (n, 0) := by
  obtain ⟨x, hx, hkind⟩ := h
  have hsome : (q.find? fun it => !it.isNotice).isSome = true := List.find?_isSome.mpr ⟨x, hx, by simp [hkind]⟩
  obtain ⟨r, hr⟩ := Option.isSome_iff_exists.mp hsome
  simp only [choose, hr, hn, if_neg hstreak.not_gt]

end Choice

/-! ### The transmitter at an output frame start (R146, R147, R174) -/

section Start

variable (s : State) {it : TxItem} {k : Nat} {a : Bool}

theorem noticeSent_of_queued {e : Fin 16} (h : (s.record e).notice = .queued) :
    s.noticeSent e = s.withEvents (s.events.setRecord e { s.record e with notice := .sent }) :=
  if_pos h

theorem noticeSent_of_not_queued {e : Fin 16} (h : (s.record e).notice ≠ .queued) : s.noticeSent e = s :=
  if_neg h

theorem afterWord_of_lt (h : k + 1 < it.message.words.length) :
    s.afterWord it k a = s.withChannel { s.channel with transmitter := .sending it (k + 1) a } :=
  if_pos h

/-- The last word of a notice that its record still has as its own is reported to the event unit. -/
theorem afterWord_last_attached {e : Fin 16} {m : Message} (h : m.words.length ≤ k + 1) :
    s.afterWord (.notice e m) k true = (s.withChannel { s.channel with transmitter := .gap }).noticeSent e :=
  if_neg h.not_gt

theorem afterWord_last_unreported (h : it.message.words.length ≤ k + 1) (hkind : it.isNotice = false ∨ a = false) :
    s.afterWord it k a = s.withChannel { s.channel with transmitter := .gap } := by
  refine (if_neg h.not_gt).trans ?_
  match it, a with
  | .response _, _ => rfl
  | .notice _ _, false => rfl
  | .notice _ _, true => simp [TxItem.isNotice] at hkind

theorem transmitStart_of_gap (h : s.channel.transmitter = .gap) :
    s.transmitStart = s.withChannel { s.channel with transmitter := .idle } := by
  simp only [transmitStart, h]

theorem transmitStart_of_sending (h : s.channel.transmitter = .sending it k a) :
    s.transmitStart = s.afterWord it k a := by
  simp only [transmitStart, h]

theorem transmitStart_of_empty (h : s.channel.transmitter = .idle) (hq : s.channel.txQueue = []) :
    s.transmitStart = s := by
  simp only [transmitStart, h, hq, choose, List.find?_nil]

theorem transmitStart_of_choice {streak : Nat} (h : s.channel.transmitter = .idle)
    (hc : choose s.channel.txQueue s.channel.streak = some (it, streak)) :
    s.transmitStart = handOutRoom (s.withChannel
      { s.channel with
        txQueue := s.channel.txQueue.erase it, streak := streak, transmitter := .sending it 1 it.isNotice }) := by
  simp only [transmitStart, h, hc]
  rw [afterWord_of_lt _ it.message.one_lt_length_words]
  rfl

end Start

end State

end Sys2Proof.Machine

open Sys2Proof Sys2Proof.Machine

/-- Settles O56: the format is read off the octets that the words carry, the choice off the oldest message of each kind,
and the moves off what follows a word. -/
theorem transmitterChoosesAndSends : Obligations.TransmitterChoosesAndSends := by
  refine ⟨fun m hlen => ?format, fun q streak => ⟨?none, ?response, ?notice⟩,
    fun s => ⟨s.transmitStart_of_gap, fun it k a h => ⟨fun hk => ?next, fun hk => ⟨?sent, ?unreported⟩⟩,
      fun h => ⟨s.transmitStart_of_empty h, fun it streak => s.transmitStart_of_choice h⟩⟩⟩
  case format =>
    have hlength := m.length_wordOctets_words
    have hbody (i : Nat) (hi : i < 5) : byteAt (wordOctets m.words) i = byteAt m.body i :=
      m.byteAt_wordOctets_words (Nat.lt_add_right _ hi)
    refine ⟨?kind, hbody 1 (by decide), hbody 2 (by decide), ?status, ?len, m.payload_of_wordOctets_words,
      m.check_of_wordOctets_words, (length_wordOctets m.words).symm, fun hodd => ?odd,
      fun heven => ⟨?even, m.pad_of_wordOctets_words heven⟩⟩
    case kind =>
      rw [hbody 0 (by decide)]
      refine (toNat_kindOctet m.kind m.unit).trans ?_
      cases m.kind <;> rfl
    case status =>
      rw [hbody 3 (by decide)]
      exact m.status.toNat_code
    case len =>
      rw [hbody 4 (by decide)]
      exact Nat.mod_eq_of_lt (hlen.trans_lt (by decide))
    case odd => rw [hlength, m.padOctets_of_odd hodd, List.length_nil, Nat.add_zero]
    case even =>
      rw [hlength, m.padOctets_of_even heven, List.length_singleton]
      omega
  case none =>
    rintro rfl
    rfl
  case response =>
    rintro r rest older rfl hr holder
    have hfind : (older ++ r :: rest).find? (fun it => !it.isNotice) = some r :=
      State.find?_oldest (by simp [hr]) fun y hy => by simp [holder y hy]
    exact ⟨State.choose_of_responses hfind,
      fun hboth hstreak => State.choose_response_of_both hfind hboth (Nat.lt_succ_of_le hstreak)⟩
  case notice =>
    rintro n rest older rfl hn holder
    have hfind : (older ++ n :: rest).find? TxItem.isNotice = some n := State.find?_oldest hn holder
    exact ⟨State.choose_of_notices hfind,
      fun hboth hstreak => State.choose_notice_of_both hfind hboth hstreak.ge⟩
  case next => exact (s.transmitStart_of_sending h).trans (s.afterWord_of_lt hk)
  case sent =>
    rintro e m rfl rfl hqueued
    exact ((s.transmitStart_of_sending h).trans (s.afterWord_last_attached hk)).trans
      (State.noticeSent_of_queued _ hqueued)
  case unreported =>
    intro hwhy
    rw [s.transmitStart_of_sending h]
    by_cases hkind : it.isNotice = false ∨ a = false
    · exact s.afterWord_last_unreported hk hkind
    · obtain ⟨hnot, hatt⟩ := not_or.mp hkind
      obtain rfl : a = true := by simpa using hatt
      obtain ⟨e, m, rfl, hrecord⟩ : ∃ e m, it = .notice e m ∧ (s.record e).notice ≠ .queued := by
        simpa [hnot] using hwhy
      exact (s.afterWord_last_attached hk).trans (State.noticeSent_of_not_queued _ hrecord)

end

section
/-!
Events and notices: what one occurrence leaves in its record (R172), and when ALERT_N is low (R180).
-/

namespace Sys2Proof.Machine

theorem EventUnit.unmaskedFlag_iff (u : EventUnit) :
    u.unmaskedFlag = true ↔ ∃ e : Fin 16, (u.records.get e).flag = true ∧ u.mask.getLsbD e.val = true := by
  simp only [unmaskedFlag, List.any_eq_true, List.mem_finRange, true_and, Bool.and_eq_true]

namespace State

/-- ALERT_N is released while the part is held in reset, whatever the flags (R180, R187). -/
theorem alertLow_iff (s : State) :
    s.alertLow = true ↔
      s.resetHeld = false ∧ ∃ e : Fin 16, (s.record e).flag = true ∧ s.events.mask.getLsbD e.val = true := by
  rw [alertLow, Bool.and_eq_true, Bool.not_eq_true', EventUnit.unmaskedFlag_iff]
  rfl

/-- The mask bit decides only whether an idle record becomes OWED: a notice already under way stays as it is (R172). -/
theorem occurredRecord_eq (s : State) (ev : Event) (d : Half) :
    s.occurredRecord ev d =
      ⟨true, if (s.record ev.num).count < 255 then (s.record ev.num).count + 1 else (s.record ev.num).count, d,
        if s.events.mask.getLsbD ev.num.val = true ∧ (s.record ev.num).notice = .none then .owed
        else (s.record ev.num).notice⟩ := by
  simp only [occurredRecord, occurred, satInc, Bool.not_not, Bool.and_eq_true, decide_eq_true_eq]

/-- An occurrence is the change of its record and then the offering of the owed records, and no more. -/
theorem offered_raise (s : State) (ev : Event) (d : Half) :
    ∃ es, State.offered (s.withEvents (s.events.setRecord ev.num (s.occurredRecord ev d))) (s.raise ev d) es := by
  rw [raise_eq]
  exact offered_offerNotices _

end State

end Sys2Proof.Machine

open Sys2Proof Sys2Proof.Machine

/-- Settles O41: the record of the occurrence is `State.occurredRecord`, and what follows is one offering. -/
theorem occurrenceSetsTheRecord : Obligations.OccurrenceSetsTheRecord := by
  refine ⟨fun s ev detail => ?record, State.alertLow_iff⟩
  case record =>
    have hoffered := s.offered_raise ev detail
    rw [State.occurredRecord_eq] at hoffered
    exact hoffered

end

section
/-!
READ_STATUS and the codes (R64, R113, R153, R182, R184, R186): a request at a Ready part, the 36 octets of the status
payload at their places, and the number of every code.
-/

namespace Sys2Proof.Machine

/-! ### A request at a Ready part (R141, R142) -/

/-- A request that meets a Ready part is performed at once on the state as it stands, and answered. -/
theorem exec_command_of_ready {s : State} {h : ReqHeader} (hs : s.Ready h) (k : ReqKind) (p : List Byte) :
    exec (k.command h p) s = .next (State.complete (requestOf h k.code p) (s.perform k (requestOf h k.code p))) := by
  have harrives : exec (k.command h p) s = .next (s.arrives (requestOf h k.code p)) := by cases k <;> rfl
  rw [harrives, State.arrives_ready hs, State.carryOut, State.execute_code]

/-! ### Fields of octets (R182) -/

theorem byteAt_drop (q : List Byte) (i j : Nat) : byteAt (q.drop i) j = byteAt q (i + j) := by
  simp only [byteAt, List.getD_eq_getElem?_getD, List.getElem?_drop]

/-- A 16-bit field is read back where its two octets stand. -/
theorem halfAt_of_drop_eq {q rest : List Byte} {i : Nat} {x : Half} (h : q.drop i = octets x ++ rest) :
    halfAt q i = x := by
  calc halfAt q i
      = halfAt (q.drop i) 0 := by rw [halfAt, halfAt, byteAt_drop, byteAt_drop]; rfl
    _ = halfAt ([] ++ (octets x ++ rest)) ([] : List Byte).length := by rw [h]; rfl
    _ = x := halfAt_append_octets [] rest x

/-- Bit fields side by side are the digits of a number. -/
theorem toNat_append_eq_add {v w : Nat} (a : BitVec v) (b : BitVec w) :
    (a ++ b).toNat = a.toNat * 2 ^ w + b.toNat := by
  rw [BitVec.toNat_append, ← Nat.shiftLeft_add_eq_or_of_lt b.isLt, Nat.shiftLeft_eq]

/-! ### The status payload (R64, R113, R153, R186) -/

theorem EventUnit.getLsbD_flags (u : EventUnit) (e : Fin 16) : u.flags.getLsbD e.val = (u.records.get e).flag := by
  rw [flags, BitVec.getLsbD_ofFnLE, dif_pos e.isLt]

namespace State

variable (s : State)

theorem toNat_trunkStatus (t : Trunk) :
    (s.trunkStatus t).toNat =
      64 * (s.receiver t).align.code.toNat + 16 * (s.store t).phase.code.toNat
        + 4 * ((s.store t).queue.length % 4) + (s.receiver t).farInFallback.toNat := by
  simp only [trunkStatus, toNat_append_eq_add, BitVec.toNat_ofNat, BitVec.toNat_ofBool]
  omega

/-- The octets in order, so that each stands where the response layout has it. -/
theorem statusPayload_eq :
    s.statusPayload =
      s.trunkStatus 0 :: s.trunkStatus 1 :: s.trunkStatus 2 :: s.trunkStatus 3 ::
      BitVec.zeroExtend 8 s.timing.state.code :: trunkOctet s.timing.state.trunk? :: (octets s.timing.counter ++
      (s.liveBank.code :: s.currentBank.code ::
      (octets (s.bank .bank0).editCount ++ (octets (s.bank .bank1).editCount ++ (octets (s.bank .f).editCount ++
      (mark s.map.frozen :: s.supervision.state.code :: (natOctets s.supervision.state.count ++
      (pendingKind s.operation :: (octets (pendingFrame s.operation) ++
      (BitVec.ofNat 8 (pendingProgress s.operation) :: (octets s.events.flags ++
      (natOctets s.channel.rx.badCheck ++ (natOctets s.channel.rx.badLength ++ (natOctets s.channel.rx.aborts ++
      (natOctets s.channel.rx.overlong ++ natOctets s.channel.rx.badKind))))))))))))))) := by
  have htrunks : (List.finRange 4).map s.trunkStatus =
      [s.trunkStatus 0, s.trunkStatus 1, s.trunkStatus 2, s.trunkStatus 3] := rfl
  unfold statusPayload
  rw [htrunks]
  simp only [List.append_assoc, List.cons_append, List.nil_append]
  rfl

theorem length_statusPayload : s.statusPayload.length = 36 := by
  rw [statusPayload_eq]
  rfl

/-- Octets 0 to 3: the trunks in order. -/
theorem byteAt_statusPayload_trunk (t : Trunk) : byteAt s.statusPayload t.val = s.trunkStatus t := by
  rw [statusPayload_eq]
  match t with
  | 0 | 1 | 2 | 3 => rfl

/-- Octet 4: the timer state, widened from its two bits. -/
theorem toNat_byteAt_statusPayload_timer : (byteAt s.statusPayload 4).toNat = s.timing.state.code.toNat := by
  rw [statusPayload_eq]
  exact BitVec.toNat_setWidth_of_le (show 2 ≤ 8 by decide)

/-- Octets 24 and 25: the event flags, bit `e` for event `e`. -/
theorem getLsbD_halfAt_statusPayload_flags (e : Fin 16) :
    (halfAt s.statusPayload 24).getLsbD e.val = (s.record e).flag := by
  have hflags : halfAt s.statusPayload 24 = s.events.flags := by
    rw [statusPayload_eq]
    exact halfAt_of_drop_eq rfl
  rw [hflags, EventUnit.getLsbD_flags]
  rfl

theorem doReadStatus_nil : s.doReadStatus [] = ⟨.ok, s.statusPayload, s⟩ := if_neg (not_not_intro rfl)

theorem doReadStatus_of_payload {p : List Byte} (h : p ≠ []) : s.doReadStatus p = ⟨.badLength, [], s⟩ := if_pos h

end State

/-! ### The codes (R182, R184, chapter 10) -/

theorem toNat_trunkOctet_some (t : Trunk) : (trunkOctet (some t)).toNat = t.val :=
  Nat.mod_eq_of_lt (t.isLt.trans (by decide))

theorem enumerationsAreCoded_holds : enumerationsAreCoded := by
  refine ⟨fun b => ?bank, fun q => ?qual, fun a => ?alignment, fun f => ?phase, fun m => ?timer,
    fun v => ?supervision, fun o => ?pending, fun x => ?protState, fun c => ?protCommand, fun b => ?mark⟩
  case bank => cases b <;> rfl
  case qual => cases q <;> rfl
  case alignment => cases a <;> rfl
  case phase => cases f <;> rfl
  case timer =>
    cases m with
    | freeRun => exact ⟨rfl, rfl⟩
    | tracking t => exact ⟨rfl, toNat_trunkOctet_some t⟩
    | holdover t _ => exact ⟨rfl, toNat_trunkOctet_some t⟩
  case supervision =>
    match v with
    | .off | .watching _ | .lapsed .expiry | .lapsed .fallback | .lapsed .reset => exact ⟨rfl, rfl, rfl⟩
  case pending =>
    match o with
    | none | some (.switch _ _ _) | some (.resume _ _) | some (.copy _ _ _ _) => rfl
  case protState => cases x <;> rfl
  case protCommand => cases c <;> rfl
  case mark => cases b <;> rfl

theorem codesAreTheSpecs_holds : codesAreTheSpecs := by
  refine ⟨enumerationsAreCoded_holds, fun k => ?request, fun e => ?event⟩
  case request => cases k <;> rfl
  case event => cases e <;> rfl

end Sys2Proof.Machine

open Sys2Proof Sys2Proof.Machine

/-- Settles O13: each field is read off the status payload where its octets stand. -/
theorem readStatusReportsEveryBlock : Obligations.ReadStatusReportsEveryBlock := by
  intro s h p hs
  have hexec (p : List Byte) : exec (.readStatus h p) s =
      .next (State.complete (requestOf h ReqKind.readStatus.code p) (s.doReadStatus p)) :=
    exec_command_of_ready hs .readStatus p
  refine ⟨?answered, fun hp => ?refused, codesAreTheSpecs_holds⟩
  case answered =>
    rintro rfl
    refine ⟨s.statusPayload, by rw [hexec, s.doReadStatus_nil], s.length_statusPayload, fun t => ?trunk,
      s.toNat_byteAt_statusPayload_timer, ?blocks⟩
    case trunk => rw [s.byteAt_statusPayload_trunk, s.toNat_trunkStatus]
    case blocks =>
      have hflags := s.getLsbD_halfAt_statusPayload_flags
      rw [s.statusPayload_eq] at hflags ⊢
      refine ⟨rfl, ?frameCounter, rfl, rfl, ?editCount0, ?editCount1, ?editCountF, rfl, rfl, ?supervisionCount, rfl,
        ?pendingFrame, rfl, hflags, ?badCheck, ?badLength, ?aborts, ?overlong, ?badKind⟩
      all_goals exact halfAt_of_drop_eq rfl
  case refused => rw [hexec, s.doReadStatus_of_payload hp]

end

section
/-!
What executing a request can do, said once (R142): `Effect` lists the ways a request leaves the part, each with the
checks its acceptance has passed, and `effect_execute` says that there are no others.
-/

namespace Sys2Proof.Machine

/-! ### Encoded entries that pass their checks (R11, R12) -/

theorem entryAlternate_ranges {e : List Byte} {a : Alternate} (h : entryAlternate e = some a) :
    1 ≤ a.holdOff ∧ a.holdOff ≤ 15 ∧ a.waitToRestore ≤ 255 := by
  simp only [entryAlternate] at h
  split at h
  next hhold =>
    obtain ⟨t, -, rfl⟩ := Option.map_eq_some_iff.mp h
    exact ⟨hhold.1, hhold.2, Nat.le_of_lt_succ (BitVec.isLt _)⟩
  next => exact nomatch h

theorem length_filterMap_entryTerms {e : List Byte} (h : (entryTerms e).all Option.isSome = true) :
    ((entryTerms e).filterMap id).length = entryTermCount e := by
  have hlen : (entryTerms e).length = entryTermCount e := by simp [entryTerms]
  rw [← hlen]
  exact List.filterMap_length_eq_length.mpr (by simpa using h)

/-- Octets whose fields are in range and whose structure is that of R12 stand for a well-formed entry. -/
theorem wellFormed_entryOf {e : List Byte} (hfields : entryFieldsOk e = true) (hshape : entryShapeOk e = true) :
    (entryOf e).wellFormed = true := by
  have hterms : (entryTerms e).all Option.isSome = true := by
    simp only [entryFieldsOk, Bool.and_eq_true] at hfields
    exact hfields.1.1.2
  have hcount := length_filterMap_entryTerms hterms
  unfold entryShapeOk at hshape
  unfold entryOf at hshape ⊢
  split
  next t hmode ht =>
    simp only [hmode, ht] at hshape
    split
    next hmark =>
      cases halt : entryAlternate e with
      | none => rfl
      | some a =>
        obtain ⟨hpos, hle, hwait⟩ := entryAlternate_ranges halt
        simp only [hmark, halt, if_true, Bool.and_eq_true, decide_eq_true_eq] at hshape
        simp [Entry.wellFormed, hpos, hle, hwait, hshape.2]
    next => rfl
  next hmode =>
    simp only [hmode, Bool.and_eq_true, decide_eq_true_eq] at hshape
    obtain ⟨⟨⟨htwo, hfour⟩, -⟩, hdistinct⟩ := hshape
    simp only [Entry.wellFormed, hcount, htwo, hfour, hdistinct, decide_true, Bool.and_self]
  next => rfl
  next => rfl

namespace State

variable (s : State)

/-! ### The effects of requests -/

/-- The state an executed request leaves: the state as it was, or the effect of an accepted request, with the conditions
its checks have established (R142). -/
inductive Effect : State → Prop where
  | unchanged : Effect s
  | entryPut (b : BankId) (i : Fin 128) (e : Entry) (free : s.bankRefusal b = none) (wf : e.wellFormed = true) :
      Effect (s.putEntry b i e)
  | bankCleared (b : BankId) (free : s.bankRefusal b = none) :
      Effect (s.setBank b ⟨Table.fill 128 .off, (s.bank b).editCount + 1⟩)
  | switchPending (seq : Byte) (n : Half) (expected : Option Half) (idle : s.operation = none)
      (fits : ∀ x, expected = some x → (s.bank s.shadowBank).editCount = x) :
      Effect (s.withOperation (some (.switch seq n expected)))
  | resumePending (seq : Byte) (n : Half) (idle : s.operation = none) (lapsed : s.isLapsed = true) :
      Effect (s.withOperation (some (.resume seq n)))
  | copyPending (seq : Byte) (src dst : BankId) (idle : s.operation = none) (apart : src ≠ dst)
      (notLive : dst ≠ s.liveBank) (notFrozen : s.frozenBank dst = false) :
      Effect (s.withOperation (some (.copy seq src dst 0)))
  | cancelled (op : PendingOp) (pending : s.operation = some op) : Effect (s.cancelOperation op)
  | commanded (i : Fin 128) (c : ProtCommand) (free : i ≠ s.reserved)
      (route : ((s.bank s.liveBank).entries.get i).hasAlternate = true) : Effect (s.commandRecord i c)
  | trunkEnabled (t : Trunk) : Effect (s.enableTrunk t)
  | trunkDisabled (t : Trunk) (free : t ≠ s.mgmtTrunk) : Effect (s.disableTrunk t)
  | countersCleared (t : Trunk) : Effect (s.countOn t fun _ => .zero)
  | listReplaced (l : List Trunk) (distinct : l.Nodup) : Effect (s.replaceReferences l)
  | phaseKept (phase : KeepPhase) : Effect (s.keepAlive phase).2
  | periodChanged (period : Half) (range : period = 0 ∨ 256 ≤ period.toNat) :
      Effect (s.withSupervision (periodSet s.supervision period))
  | fellBack (watching : s.isLapsed = false) : Effect s.lapseByRequest
  | frozeF (thawed : s.map.frozen = false) (free : s.copyInto .f = false) :
      Effect (s.withMap { s.map with frozen := true })
  | acknowledged (set : BitVec 16) : Effect (s.acknowledge set)
  | masked (mask : BitVec 16) (interval : Byte) : Effect (s.setMask mask interval)
  | restarted : Effect s.restarted

variable {s}

/-! Each request by itself: its refusals leave the state, its acceptance is one effect. -/

theorem effect_doWriteEntry (p : List Byte) : s.Effect (s.doWriteEntry p).state := by
  simp only [doWriteEntry]
  split
  · exact .unchanged
  · split
    next b i _ _ hfields =>
      split
      · exact .unchanged
      next hshape =>
        split
        · exact .unchanged
        · split
          · exact .unchanged
          next hfree => exact .entryPut b i _ hfree (wellFormed_entryOf hfields (by simpa using hshape))
    · exact .unchanged

theorem effect_doReadEntry (p : List Byte) : s.Effect (s.doReadEntry p).state := by
  simp only [doReadEntry]
  split
  · exact .unchanged
  · split <;> exact .unchanged

theorem effect_doClearBank (p : List Byte) : s.Effect (s.doClearBank p).state := by
  simp only [doClearBank]
  split
  · exact .unchanged
  · split
    · exact .unchanged
    · split
      · exact .unchanged
      next hfree => exact .bankCleared _ hfree

theorem operation_eq_none (h : ¬ s.operation.isSome = true) : s.operation = none := by simpa using h

theorem effect_doSwitch (r : Request) : s.Effect (s.doSwitch r).state := by
  unfold doSwitch
  extract_lets p n expected shadowEdit
  split
  · exact .unchanged
  · split
    · exact .unchanged
    · split
      · exact .unchanged
      next hop =>
        split
        · exact .unchanged
        · split
          · exact .unchanged
          next hfits =>
            refine .switchPending _ _ _ (operation_eq_none hop) fun x hx => ?_
            rw [hx] at hfits
            simpa using Eq.symm (Decidable.of_not_not fun hne => hfits ⟨rfl, hne⟩)

theorem effect_doResume (r : Request) : s.Effect (s.doResume r).state := by
  simp only [doResume]
  split
  · exact .unchanged
  · split
    · exact .unchanged
    · split
      · exact .unchanged
      next hop =>
        split
        · exact .unchanged
        next hlapsed =>
          split
          · exact .unchanged
          · exact .resumePending _ _ (operation_eq_none hop) (by simpa using hlapsed)

theorem effect_doCopy (r : Request) : s.Effect (s.doCopy r).state := by
  simp only [doCopy]
  split
  · exact .unchanged
  · split
    next src dst _ _ =>
      split
      · exact .unchanged
      next hapart =>
        split
        · exact .unchanged
        next hop =>
          split
          · exact .unchanged
          next hlive =>
            split
            · exact .unchanged
            next hfrozen =>
              exact .copyPending _ src dst (operation_eq_none hop) hapart hlive (by simpa using hfrozen)
    · exact .unchanged

theorem effect_doCancel (p : List Byte) : s.Effect (s.doCancel p).state := by
  simp only [doCancel]
  split
  · exact .unchanged
  · split
    · exact .unchanged
    next hop => exact .cancelled _ hop

theorem effect_doReadProtection (p : List Byte) : s.Effect (s.doReadProtection p).state := by
  simp only [doReadProtection]
  split
  · exact .unchanged
  · split <;> exact .unchanged

theorem effect_doProtectionCommand (p : List Byte) : s.Effect (s.doProtectionCommand p).state := by
  simp only [doProtectionCommand]
  split
  · exact .unchanged
  · split
    · split
      · exact .unchanged
      next hfree =>
        split
        · exact .unchanged
        next hroute => exact .commanded _ _ hfree (by simpa using hroute)
    · exact .unchanged

theorem effect_doSetTrunk (p : List Byte) : s.Effect (s.doSetTrunk p).state := by
  simp only [doSetTrunk]
  split
  · exact .unchanged
  · split
    next t _ _ =>
      split
      · exact .unchanged
      next hfree =>
        cases henable : byteAt p 1 == 1 with
        | true => exact .trunkEnabled t
        | false =>
          refine .trunkDisabled t fun ht => hfree ⟨?_, ht⟩
          rw [henable]
          rfl
    · exact .unchanged

theorem effect_doReadCounters (p : List Byte) : s.Effect (s.doReadCounters p).state := by
  simp only [doReadCounters]
  split
  · exact .unchanged
  · split
    next t _ _ =>
      dsimp only
      split
      · exact .countersCleared t
      · exact .unchanged
    · exact .unchanged

theorem effect_doSetReference (p : List Byte) : s.Effect (s.doSetReference p).state := by
  simp only [doSetReference]
  split
  · exact .unchanged
  · split
    · exact .unchanged
    next hlist =>
      simp only [not_or, Bool.not_eq_false, Bool.not_eq_eq_eq_not, Bool.not_true, decide_eq_true_eq] at hlist
      exact .listReplaced _ hlist.2.2

theorem effect_doKeep (p : List Byte) : s.Effect (s.doKeep p).state := by
  simp only [doKeep]
  split
  · exact .unchanged
  · split
    · exact .unchanged
    next phase _ => exact .phaseKept phase

theorem effect_doSetSupervision (p : List Byte) : s.Effect (s.doSetSupervision p).state := by
  simp only [doSetSupervision]
  split
  · exact .unchanged
  · split
    · exact .unchanged
    next hrange =>
      split
      · exact .unchanged
      · refine .periodChanged _ ?_
        rcases Nat.eq_zero_or_pos (halfAt p 0).toNat with hzero | hpos
        · exact .inl (BitVec.eq_of_toNat_eq hzero)
        · exact .inr (by omega)

theorem effect_doFallback (p : List Byte) : s.Effect (s.doFallback p).state := by
  simp only [doFallback]
  split
  · exact .unchanged
  · split
    · exact .unchanged
    next hlapsed => exact .fellBack (by simpa using hlapsed)

theorem effect_doFreezeFallback (p : List Byte) : s.Effect (s.doFreezeFallback p).state := by
  simp only [doFreezeFallback]
  split
  · exact .unchanged
  · split
    · exact .unchanged
    next hthawed =>
      split
      · exact .unchanged
      next hfree => exact .frozeF (by simpa using hthawed) (by simpa using hfree)

theorem effect_doReadEvents (p : List Byte) : s.Effect (s.doReadEvents p).state := by
  simp only [doReadEvents]
  split <;> exact .unchanged

theorem effect_doAckEvents (p : List Byte) : s.Effect (s.doAckEvents p).state := by
  simp only [doAckEvents]
  split
  · exact .unchanged
  · exact .acknowledged _

theorem effect_doSetEvents (p : List Byte) : s.Effect (s.doSetEvents p).state := by
  simp only [doSetEvents]
  split
  · exact .unchanged
  · exact .masked _ _

theorem effect_doIdentify (p : List Byte) : s.Effect (s.doIdentify p).state := by
  simp only [doIdentify]
  split <;> exact .unchanged

theorem effect_doReadStatus (p : List Byte) : s.Effect (s.doReadStatus p).state := by
  simp only [doReadStatus]
  split <;> exact .unchanged

theorem effect_doRestart (p : List Byte) : s.Effect (s.doRestart p).state := by
  simp only [doRestart]
  split
  · exact .unchanged
  · exact .restarted

theorem effect_perform (k : ReqKind) (r : Request) : s.Effect (s.perform k r).state := by
  cases k with
  | identify => exact effect_doIdentify _
  | readStatus => exact effect_doReadStatus _
  | restart => exact effect_doRestart _
  | writeEntry => exact effect_doWriteEntry _
  | readEntry => exact effect_doReadEntry _
  | clearBank => exact effect_doClearBank _
  | switch => exact effect_doSwitch _
  | cancel => exact effect_doCancel _
  | copy => exact effect_doCopy _
  | readProtection => exact effect_doReadProtection _
  | protectionCommand => exact effect_doProtectionCommand _
  | setTrunk => exact effect_doSetTrunk _
  | readCounters => exact effect_doReadCounters _
  | setReference => exact effect_doSetReference _
  | keep => exact effect_doKeep _
  | setSupervision => exact effect_doSetSupervision _
  | fallback => exact effect_doFallback _
  | resume => exact effect_doResume _
  | freezeFallback => exact effect_doFreezeFallback _
  | readEvents => exact effect_doReadEvents _
  | ackEvents => exact effect_doAckEvents _
  | setEvents => exact effect_doSetEvents _

/-- A request, of whatever code, leaves the part in one of these ways. -/
theorem effect_execute (s : State) (r : Request) : s.Effect (s.execute r).state := by
  unfold execute
  split
  · exact effect_perform _ r
  · exact .unchanged

end State

end Sys2Proof.Machine

end

section
/-!
What every command can do, said once. Four layers carry a property of the part: through occurrences
(`KeptByOccurrences`), through requests and their responses (`CarriesRequests`), through output frame starts
(`CarriesStarts`), and, for a property that reads neither the channel nor the event unit (`ChannelFree`), through the
whole channel. `Move` lists the states a command can leave.
-/

namespace Sys2Proof.Machine

open State

/-! ### Occurrences and responses -/

/-- Every occurrence, with the notice it may bring, keeps the property. -/
structure KeptByOccurrences (P : State → Prop) : Prop where
  raised : ∀ (s : State) (ev : Event) (d : Half), P s → P (s.raise ev d)

namespace KeptByOccurrences

variable {P : State → Prop} (hP : KeptByOccurrences P) {s : State}
include hP

theorem raise (ev : Event) (d : Half) (hs : P s) : P (s.raise ev d) := hP.raised s ev d hs

theorem raiseAll (l : List (Event × Half)) (hs : P s) : P (s.raiseAll l) :=
  List.foldlRecOn l _ hs fun _ hu x _ => hP.raised _ x.1 x.2 hu

end KeptByOccurrences

/-- The property reads of the channel only transmit queue and transmitter, and a response that joins the queue keeps
it. -/
structure KeptByResponses (P : State → Prop) : Prop extends KeptByOccurrences P where
  rest : ∀ (s : State) (c : Channel), c.txQueue = s.channel.txQueue → c.transmitter = s.channel.transmitter →
    P s → P (s.withChannel c)
  response : ∀ (s : State) (m : Message), P s → P (queueResponse s m)

namespace KeptByResponses

variable {P : State → Prop} (hP : KeptByResponses P) {s : State}
include hP

theorem placeResponse (r : Request) (m : Message) (hs : P s) : P (s.placeResponse r m) := by
  unfold State.placeResponse
  split
  · exact hP.response _ _ hs
  · exact hP.rest _ _ rfl rfl hs

theorem complete (r : Request) (reply : Reply) (hs : P reply.state) : P (complete r reply) := by
  simp only [State.complete]
  split
  · exact hP.rest _ _ rfl rfl hs
  · exact hP.placeResponse _ _ (hP.rest _ _ rfl rfl hs)

theorem offerResponse (m : Message) (isCached : Bool) (hs : P s) : P (s.offerResponse m isCached) := by
  unfold State.offerResponse
  split
  · exact hP.response _ _ hs
  · exact hP.raise _ _ hs

theorem mgmtError (cause : MgmtCause) (hs : P s) : P (s.mgmtError cause) := hP.raise _ _ (hP.rest _ _ rfl rfl hs)

theorem assemblerLosesLock (hs : P s) : P s.assemblerLosesLock := by
  unfold State.assemblerLosesLock
  split
  · exact hs
  · exact hP.mgmtError _ (hP.rest _ _ rfl rfl hs)
  · exact hP.rest _ _ rfl rfl hs

end KeptByResponses

/-! ### Properties that read neither the channel nor the event unit -/

/-- A change of the transmit queue and of the event unit keeps such a property. -/
theorem NoticesOnly.keeps {P : State → Prop} (channel : ∀ s c, P s → P (State.withChannel s c))
    (events : ∀ s e, P s → P (State.withEvents s e)) {s t : State} (h : NoticesOnly s t) (hs : P s) : P t := by
  obtain ⟨l, e, -, rfl⟩ := h
  exact events _ _ (channel _ _ hs)

/-- The property does not read the channel or the event unit. -/
structure ChannelFree (P : State → Prop) : Prop extends KeptByResponses P where
  channel : ∀ (s : State) (c : Channel), P s → P (s.withChannel c)
  events : ∀ (s : State) (e : EventUnit), P s → P (s.withEvents e)
  raised := fun s ev d => (noticesOnly_raise s ev d).keeps channel events
  rest := fun s c _ _ => channel s c
  response := fun s _ => channel s _

namespace ChannelFree

variable {P : State → Prop} (hP : ChannelFree P) {s : State}
include hP

theorem noticesOnly {t : State} (h : NoticesOnly s t) (hs : P s) : P t := h.keeps hP.channel hP.events hs

theorem offerNotices (hs : P s) : P s.offerNotices := hP.noticesOnly (noticesOnly_offerNotices s) hs

theorem acknowledge (set : BitVec 16) (hs : P s) : P (s.acknowledge set) :=
  hP.offerNotices (hP.events _ _ (hP.channel _ _ hs))

theorem setMask (mask : BitVec 16) (interval : Byte) (hs : P s) : P (s.setMask mask interval) :=
  hP.offerNotices (hP.events _ _ (hP.offerNotices (hP.events _ _ (hP.channel _ _ hs))))

theorem noticeSent (e : Fin 16) (hs : P s) : P (s.noticeSent e) := by
  unfold State.noticeSent
  split
  · exact hP.events _ _ hs
  · exact hs

theorem afterWord (it : TxItem) (k : Nat) (attached : Bool) (hs : P s) : P (s.afterWord it k attached) := by
  simp only [State.afterWord]
  split
  · exact hP.channel _ _ hs
  · split
    · exact hP.noticeSent _ (hP.channel _ _ hs)
    · exact hP.channel _ _ hs

theorem renotifyStart (hs : P s) : P s.renotifyStart := by
  unfold State.renotifyStart
  split
  · exact hs
  · split
    · exact hP.offerNotices (hP.events _ _ (hP.events _ _ hs))
    · exact hP.events _ _ hs

end ChannelFree

/-! ### Requests -/

/-- Every request and every response keeps the property. -/
structure CarriesRequests (P : State → Prop) : Prop extends KeptByResponses P where
  effect : ∀ s t : State, P s → s.Effect t → P t

namespace CarriesRequests

variable {P : State → Prop} (hP : CarriesRequests P) {s : State}
include hP

theorem carryOut (r : Request) (hs : P s) : P (s.carryOut r) :=
  hP.complete _ _ (hP.effect s _ hs (effect_execute s r))

theorem runProcessor (n : Nat) (hs : P s) : P (runProcessor n s) := by
  induction n generalizing s with
  | zero => exact hs
  | succ n ih =>
    unfold State.runProcessor
    split
    · exact ih (hP.carryOut _ (hP.rest _ _ rfl rfl hs))
    · exact hs

theorem process (hs : P s) : P s.process := hP.runProcessor _ hs

theorem placeHeld (hs : P s) : P s.placeHeld := by
  unfold State.placeHeld
  split
  next h _ =>
    split
    · exact hP.process (hP.rest (queueResponse s h.response) _ rfl rfl (hP.response _ _ hs))
    · exact hs
  · exact hs

theorem admission (r : Request) (hs : P s) : P (s.admission r) := by
  unfold State.admission
  split
  · exact hs
  · split
    · split
      · exact hP.offerResponse _ _ hs
      · exact hs
    · split
      · split
        · exact hs
        · exact hP.offerResponse _ _ hs
      · exact hP.process (hP.rest _ _ rfl rfl hs)

theorem receiveRequest (r : Request) (hs : P s) : P (s.receiveRequest r) := by
  unfold State.receiveRequest
  split
  · exact hP.admission r hs
  · exact hs

theorem evaluateMessage (words : List Half) (hs : P s) : P (s.evaluateMessage words) := by
  simp only [State.evaluateMessage]
  split
  · exact hP.mgmtError _ (hP.rest _ _ rfl rfl hs)
  · exact hP.receiveRequest _ (hP.rest _ _ rfl rfl hs)

theorem takeWord (w : SlotRecord) (hs : P s) : P (s.takeWord w) := by
  unfold State.takeWord
  split
  · exact hP.rest _ _ rfl rfl hs
  · exact hs
  · split
    · exact hP.rest _ _ rfl rfl hs
    · exact hP.mgmtError _ (hP.rest _ _ rfl rfl hs)
  · exact hP.evaluateMessage _ hs
  · exact hP.mgmtError _ (hP.rest _ _ rfl rfl hs)
  · exact hP.rest _ _ rfl rfl hs
  · exact hs

end CarriesRequests

/-- A property that reads neither the channel nor the event unit, and that every request keeps. -/
structure KeptByRequests (P : State → Prop) : Prop extends ChannelFree P, CarriesRequests P

namespace KeptByRequests

variable {P : State → Prop} (hP : KeptByRequests P) {s : State}
include hP

theorem handOutRoom (hs : P s) : P s.handOutRoom := hP.offerNotices (hP.placeHeld hs)

theorem transmitStart (hs : P s) : P s.transmitStart := by
  unfold State.transmitStart
  split
  · exact hP.channel _ _ hs
  · exact hP.afterWord _ _ _ hs
  · split
    · exact hs
    · exact hP.handOutRoom (hP.afterWord _ _ _ (hP.channel _ _ hs))

end KeptByRequests

/-! ### Output frame starts -/

/-- The parts of an output frame start keep the property. -/
structure CarriesStarts (P : State → Prop) : Prop extends KeptByOccurrences P where
  advance : ∀ s : State, P s → P s.advanceFrame
  supervise : ∀ s : State, P s → P s.superviseStart
  activate : ∀ s : State, P s → P s.activateDue
  holdover : ∀ s : State, P s → P s.holdoverStart
  designate : ∀ (s : State) (t : Trunk), P s → P (s.designate t)
  latch : ∀ s : State, P s → P s.latchFrameBank
  select : ∀ s : State, P s → P (s.selectAll s.latchedNow.entries)
  renotify : ∀ s : State, P s → P s.renotifyStart
  settle : ∀ (s : State) (word : SlotRecord), P s → P (s.settleFrames word)
  transmit : ∀ s : State, P s → P s.transmitStart
  repeats : ∀ (s : State) (t : Trunk), P s → P (s.countOn t .addRepeatSlip)

namespace CarriesStarts

variable {P : State → Prop} (hP : CarriesStarts P) {s : State}
include hP

theorem designateAll (hs : P s) : P s.designateAll :=
  List.foldlRecOn _ _ hs fun _ hu t _ => hP.designate _ t hu

theorem exchangeStart (hs : P s) : P s.exchangeStart :=
  hP.raiseAll _ (hP.raiseAll _ (hP.select _ (hP.latch _ hs)))

theorem beforeSettling (hs : P s) : P s.beforeSettling :=
  hP.renotify _ (hP.exchangeStart (hP.designateAll (hP.holdover _ (hP.activate _ (hP.supervise _ (hP.advance _ hs))))))

theorem repeatSlips (l : List Trunk) (hs : P s) : P (l.foldl repeatSlip s) :=
  List.foldlRecOn _ _ hs fun _ hu t _ => hP.raise _ _ (hP.repeats _ t hu)

theorem frameStart (hs : P s) : P s.frameStart :=
  hP.repeatSlips _ (hP.transmit _ (hP.settle _ _ (hP.beforeSettling hs)))

end CarriesStarts

/-- A property that reads neither the channel nor the event unit, and that every request and every start keeps. -/
structure KeptByStarts (P : State → Prop) : Prop extends KeptByRequests P, CarriesStarts P where
  renotify := fun _ => ChannelFree.renotifyStart { channel, events }
  transmit := fun _ => KeptByRequests.transmitStart { channel, events, effect }

/-! ### Commands -/

/-- The six commands that are output frame starts (R117). -/
def startCommands : List Instr :=
  [.outputFrameStart, .switchActivation, .resumeActivation, .supervisionExpiry, .holdoverExpiry, .renotify]

/-- The states a command can leave. -/
inductive Move (s : State) : Instr → State → Prop where
  | stays (i : Instr) : Move s i s
  | poweredUp (pins : Straps) (low : Bool) : Move s (.powerUp pins low) (s.poweredUp pins low)
  | heldInReset (clocks : Nat) : Move s (.resetNLow clocks) s.heldInReset
  | released (pins : Straps) (held : s.resetHeld = true) : Move s (.resetNRelease pins) (s.released pins)
  | started (i : Instr) (start : i ∈ startCommands) (due : s.startDue = true) : Move s i s.frameStart
  | copied : Move s .copyStep s.copyEngineStep
  | searched (t : Trunk) (line : List Bool) : Move s (.patternFound t line) (s.receiverSearches t line)
  | verified (t : Trunk) (line : List Bool) : Move s (.verifyBoundary t line) (s.receiverVerifies t line)
  | examined (t : Trunk) (window : BitVec 12) : Move s (.lockedBoundary t window) (s.receiverAtBoundary t window)
  | signalLost (t : Trunk) : Move s (.signalLoss t) (s.receiverSignalLoss t)
  | signalReturned (t : Trunk) : Move s (.signalReturn t) (s.receiverSignalReturn t)
  | delivered (t : Trunk) (f : WireFrame) (elapsed : Nat) :
      Move s (.frameDelivery t f elapsed) (s.deliverFrame t f elapsed)
  | roomHandedOut : Move s .heldResponsePlaced s.handOutRoom
  | noticesOffered : Move s .noticeOffer s.offerNotices
  | received (i : Instr) (r : Request) (request : i.payload? ≠ none) : Move s i (s.receiveRequest r)

theorem move_if {s t : State} {i : Instr} {c : Prop} [Decidable c] (h : c → Move s i t) :
    Move s i (if c then t else s) := by
  split
  next hc => exact h hc
  · exact .stays i

theorem move_unheld {s t : State} {i : Instr} (h : Move s i t) : Move s i (if s.resetHeld then s else t) := by
  split
  · exact .stays i
  · exact h

theorem move_makeStart {s : State} {i : Instr} (h : i ∈ startCommands) : Move s i s.makeStart :=
  move_if fun hdue => .started i h hdue

theorem move_arrives {s : State} {i : Instr} (r : Request) (h : i.payload? ≠ none) : Move s i (s.arrives r) :=
  move_unheld (.received i r h)

/-- A start with an occurrence of its own is made only when that is due. -/
theorem move_dueStart {s : State} {i : Instr} (due : Bool) (h : i ∈ startCommands) :
    Move s i (if due then s.makeStart else s) := by
  cases due with
  | false => exact .stays i
  | true => exact move_makeStart h

/-- Every command answers a next state, and leaves it in one of these ways. -/
theorem exec_move (i : Instr) (s : State) : ∃ t, exec i s = .next t ∧ Move s i t := by
  cases i with
  | powerUp pins low => exact ⟨_, rfl, .poweredUp pins low⟩
  | resetNLow clocks =>
    refine ⟨_, rfl, ?_⟩
    split
    · exact .stays _
    · exact .heldInReset clocks
  | resetNRelease pins => exact ⟨_, rfl, move_if fun held => .released pins held⟩
  | outputFrameStart => exact ⟨_, rfl, move_makeStart (by simp [startCommands])⟩
  | switchActivation => exact ⟨_, rfl, move_dueStart _ (by simp [startCommands])⟩
  | resumeActivation => exact ⟨_, rfl, move_dueStart _ (by simp [startCommands])⟩
  | supervisionExpiry => exact ⟨_, rfl, move_dueStart _ (by simp [startCommands])⟩
  | holdoverExpiry => exact ⟨_, rfl, move_dueStart _ (by simp [startCommands])⟩
  | renotify => exact ⟨_, rfl, move_dueStart _ (by simp [startCommands])⟩
  | copyStep => exact ⟨_, rfl, move_unheld .copied⟩
  | patternFound t line => exact ⟨_, rfl, move_unheld (.searched t line)⟩
  | verifyBoundary t line => exact ⟨_, rfl, move_unheld (.verified t line)⟩
  | lockedBoundary t window => exact ⟨_, rfl, move_unheld (.examined t window)⟩
  | signalLoss t => exact ⟨_, rfl, move_unheld (.signalLost t)⟩
  | signalReturn t => exact ⟨_, rfl, move_unheld (.signalReturned t)⟩
  | frameDelivery t f elapsed => exact ⟨_, rfl, move_unheld (.delivered t f elapsed)⟩
  | heldResponsePlaced => exact ⟨_, rfl, move_unheld .roomHandedOut⟩
  | noticeOffer => exact ⟨_, rfl, move_unheld .noticesOffered⟩
  | _ => exact ⟨_, rfl, move_arrives _ (by simp [Instr.payload?])⟩

/-- A property that every command keeps, and that does not read the queue of commands, is kept by every step. -/
theorem step_keeps {P : State → Prop} (hpending : ∀ s l, P s → P (s.withPending l))
    (hmove : ∀ s i t, P s → Move s i t → P t) {s t : State} (hs : P s) (h : step s = .next t) : P t := by
  unfold step at h
  split at h
  · cases h
    exact hs
  next c rest _ =>
    obtain ⟨u, hu, hm⟩ := exec_move c (s.withPending rest)
    cases hu.symm.trans h
    exact hmove _ _ _ (hpending s rest hs) hm

end Sys2Proof.Machine

end

section
/-!
The two halves of the part. A property that reads nothing of the trunks and of the timing unit (`LineFree`) is kept by
everything that happens on the lines; one that reads nothing of banks, exchange, protection records, pending operation
and supervision (`BankFree`) is kept by everything that happens to these.
-/

namespace Sys2Proof.Machine

open State

theorem State.setBank_withMap (s : State) (b : BankId) (v : Bank) : ∃ m, s.setBank b v = s.withMap m :=
  ⟨_, s.setBank_eq_withMap b v⟩

/-! ### Properties that read nothing of trunks and timing -/

/-- The property reads nothing of receivers, stores and timing unit, and what their changes bring about on the channel
keeps it. -/
structure CarriesLines (P : State → Prop) : Prop extends KeptByOccurrences P where
  aborted : ∀ s : State, P s → P s.assemblerLosesLock
  receivers : ∀ (s : State) (v : Table 4 Receiver), P s → P (s.withReceivers v)
  stores : ∀ (s : State) (v : Table 4 Store), P s → P (s.withStores v)
  timing : ∀ (s : State) (v : Timing), P s → P (s.withTiming v)

namespace CarriesLines

variable {P : State → Prop} (hP : CarriesLines P) {s : State}
include hP

theorem retime (tm : Timing) (hs : P s) : P (s.retime tm) := by
  simp only [State.retime]
  split
  · exact hP.raise _ _ (hP.timing _ _ hs)
  · exact hP.timing _ _ hs

theorem evaluateReference (hs : P s) : P s.evaluateReference := hP.retime _ hs

theorem replaceReferences (l : List Trunk) (hs : P s) : P (s.replaceReferences l) :=
  hP.evaluateReference (hP.timing _ _ hs)

theorem countOn (t : Trunk) (f : TrunkCounters → TrunkCounters) (hs : P s) : P (s.countOn t f) :=
  hP.receivers _ _ hs

theorem timingLosesTrunk (t : Trunk) (hs : P s) : P (s.timingLosesTrunk t) := by
  simp only [State.timingLosesTrunk]
  split
  · exact hP.evaluateReference (hP.timing _ _ hs)
  · exact hP.timing _ _ hs

theorem neighboursLoseLock (t : Trunk) (hs : P s) : P (s.neighboursLoseLock t) := by
  have hleft : P ((s.idleStore t).timingLosesTrunk t) := hP.timingLosesTrunk t (hP.stores _ _ hs)
  simp only [State.neighboursLoseLock]
  split
  · exact hP.aborted _ hleft
  · exact hleft

theorem loseLock (t : Trunk) (r : Receiver) (hs : P s) : P (s.loseLock t r) :=
  hP.neighboursLoseLock t (hP.raise _ _ (hP.countOn t _ (hP.receivers _ _ hs)))

theorem gainLock (t : Trunk) (r : Receiver) (hs : P s) : P (s.gainLock t r) :=
  hP.raise _ _ (hP.timing _ _ (hP.stores _ _ (hP.receivers _ _ hs)))

theorem enableTrunk (t : Trunk) (hs : P s) : P (s.enableTrunk t) := by
  simp only [State.enableTrunk]
  split
  · exact hP.receivers _ _ hs
  · exact hs

theorem disableTrunk (t : Trunk) (hs : P s) : P (s.disableTrunk t) := by
  simp only [State.disableTrunk]
  split
  · exact hP.neighboursLoseLock t (hP.receivers _ _ hs)
  · exact hP.receivers _ _ hs

theorem receiverSearches (t : Trunk) (line : List Bool) (hs : P s) : P (s.receiverSearches t line) := by
  simp only [State.receiverSearches]
  split
  · exact hP.receivers _ _ hs
  · exact hs

theorem receiverVerifies (t : Trunk) (line : List Bool) (hs : P s) : P (s.receiverVerifies t line) := by
  simp only [State.receiverVerifies]
  split
  · split
    · exact hP.receivers _ _ hs
    · split
      · split
        · exact hP.receivers _ _ hs
        · exact hP.gainLock _ _ hs
      · exact hP.receivers _ _ hs
  · exact hs

theorem receiverAtBoundary (t : Trunk) (window : BitVec 12) (hs : P s) : P (s.receiverAtBoundary t window) := by
  simp only [State.receiverAtBoundary]
  split
  · split
    · exact hP.receivers _ _ hs
    · split
      · exact hP.receivers _ _ hs
      · exact hP.loseLock _ _ hs
  · exact hs

theorem receiverSignalLoss (t : Trunk) (hs : P s) : P (s.receiverSignalLoss t) := by
  simp only [State.receiverSignalLoss]
  split
  · exact hs
  · split
    · exact hP.loseLock _ _ hs
    · exact hP.receivers _ _ hs

theorem receiverSignalReturn (t : Trunk) (hs : P s) : P (s.receiverSignalReturn t) := by
  simp only [State.receiverSignalReturn]
  split
  · exact hs
  · exact hP.receivers _ _ hs

theorem storeDelivery (t : Trunk) (fr : FrameRecord) (hs : P s) : P (s.storeDelivery t fr) := by
  simp only [State.storeDelivery]
  split
  · exact hs
  · exact hP.stores _ _ hs
  · split
    · exact hP.stores _ _ hs
    · exact hP.raise _ _ (hP.countOn t _ (hP.stores _ _ hs))

theorem countDelivery (t : Trunk) (hs : P s) : P (s.countDelivery t) := by
  simp only [State.countDelivery]
  split
  · exact hP.evaluateReference (hP.timing _ _ hs)
  · exact hP.timing _ _ hs

theorem designate (t : Trunk) (hs : P s) : P (s.designate t) := by
  simp only [State.designate]
  split
  · split
    · exact hP.stores _ _ hs
    · exact hs
  · exact hP.stores _ _ hs

theorem designateAll (hs : P s) : P s.designateAll :=
  List.foldlRecOn _ _ hs fun _ hu t _ => hP.designate t hu

theorem repeatSlips (l : List Trunk) (hs : P s) : P (l.foldl repeatSlip s) :=
  List.foldlRecOn _ _ hs fun _ hu t _ => hP.raise _ _ (hP.countOn t _ hu)

theorem advanceFrame (hs : P s) : P s.advanceFrame := hP.timing _ _ hs

theorem holdoverStart (hs : P s) : P s.holdoverStart := hP.retime _ hs

/-- A delivery on a trunk: what follows the word on the management trunk reaches trunks and timing only. -/
theorem deliverFrame (takeWord : ∀ (s : State) (w : SlotRecord), P s → P (s.takeWord w)) (t : Trunk) (f : WireFrame)
    (elapsed : Nat) (hs : P s) : P (s.deliverFrame t f elapsed) := by
  simp only [State.deliverFrame]
  split
  next c miss rem _ =>
    have hcounted : P ((((s.passTime elapsed).setReceiver t ((s.receiver t).afterFrame c miss rem f)).raiseAll
        (deliveryEvents (s.receiver t) t miss f)).countDelivery t) :=
      hP.countDelivery t (hP.raiseAll _ (hP.receivers _ _ (hP.timing _ _ hs)))
    simp only [handOnFrame]
    refine hP.storeDelivery t _ (hP.timing _ _ ?_)
    split
    · exact takeWord _ _ hcounted
    · exact hcounted
  · exact hs

end CarriesLines

/-- The property reads nothing of trunks, timing unit, channel and event unit. -/
structure LineFree (P : State → Prop) : Prop extends ChannelFree P, CarriesLines P where
  aborted := fun _ => KeptByResponses.assemblerLosesLock { raised, rest, response }

/-! ### Properties that read nothing of banks, exchange, protection, operation and supervision -/

/-- The property reads nothing of banks, exchange, protection records, pending operation and supervision. -/
structure CarriesBanks (P : State → Prop) : Prop extends KeptByOccurrences P where
  map : ∀ (s : State) (v : ConnectionMap), P s → P (s.withMap v)
  exchange : ∀ (s : State) (v : Exchange), P s → P (s.withExchange v)
  protection : ∀ (s : State) (v : Table 128 ProtRecord), P s → P (s.withProtection v)
  operation : ∀ (s : State) (v : Option PendingOp), P s → P (s.withOperation v)
  supervision : ∀ (s : State) (v : Supervision), P s → P (s.withSupervision v)

namespace CarriesBanks

variable {P : State → Prop} (hP : CarriesBanks P) {s : State}
include hP

theorem setBank (b : BankId) (v : Bank) (hs : P s) : P (s.setBank b v) := by
  obtain ⟨m, hm⟩ := s.setBank_withMap b v
  rw [hm]
  exact hP.map _ _ hs

theorem abandonCopy (seq : Byte) (dst : BankId) (hs : P s) : P (s.abandonCopy seq dst) :=
  hP.raise _ _ (hP.operation _ _ (hP.setBank _ _ hs))

theorem completeCopy (seq : Byte) (src dst : BankId) (hs : P s) : P (s.completeCopy seq src dst) :=
  hP.raise _ _ (hP.operation _ _ (hP.setBank _ _ hs))

theorem copyEngineStep (hs : P s) : P s.copyEngineStep := by
  simp only [State.copyEngineStep]
  split
  · split
    · split
      · exact hP.completeCopy _ _ _ (hP.setBank _ _ hs)
      · exact hP.operation _ _ (hP.setBank _ _ hs)
    · exact hs
  · exact hs

theorem cancelOperation (op : PendingOp) (hs : P s) : P (s.cancelOperation op) := by
  cases op with
  | switch seq n expected => exact hP.raise _ _ (hP.operation _ _ hs)
  | resume seq n => exact hP.raise _ _ (hP.operation _ _ hs)
  | copy seq src dst n => exact hP.abandonCopy _ _ hs

theorem keepAlive (phase : KeepPhase) (hs : P s) : P (s.keepAlive phase).2 := by
  simp only [State.keepAlive]
  split
  · split
    · exact hP.raise _ _ hs
    · exact hP.supervision _ _ hs
  · exact hP.supervision _ _ hs

theorem lapseOperation (cause : LapseCause) (hs : P s) : P (s.lapseOperation cause) := by
  unfold State.lapseOperation
  split
  · exact hP.raise _ _ (hP.operation _ _ hs)
  · exact hP.abandonCopy _ _ hs
  · exact hs

theorem protectFallback (hs : P s) : P s.protectFallback := by
  unfold State.protectFallback
  split
  · exact hs
  · exact hP.protection _ _ hs

theorem protectResume (hs : P s) : P s.protectResume := by
  simp only [State.protectResume]
  split
  · exact hP.protection _ _ hs
  · exact hP.protection _ _ (hP.protection _ _ hs)

theorem lapseByRequest (hs : P s) : P s.lapseByRequest :=
  hP.raise _ _ (hP.protectFallback (hP.lapseOperation _ (hP.supervision _ _ hs)))

theorem lapseByExpiry (hs : P s) : P s.lapseByExpiry := hP.raise _ _ (hP.lapseOperation _ (hP.supervision _ _ hs))

theorem superviseStart (hs : P s) : P s.superviseStart := by
  unfold State.superviseStart
  split
  · split
    · exact hP.lapseByExpiry hs
    · exact hP.supervision _ _ hs
  · exact hs

theorem activateSwitch (seq : Byte) (hs : P s) : P (s.activateSwitch seq) :=
  hP.raise _ _ (hP.operation _ _ (hP.map _ _ hs))

theorem activateResume (seq : Byte) (hs : P s) : P (s.activateResume seq) :=
  hP.raise _ _ (hP.operation _ _ (hP.protectResume (hP.supervision _ _ hs)))

theorem activateDue (hs : P s) : P s.activateDue := by
  unfold State.activateDue
  split
  · split
    · exact hP.activateSwitch _ hs
    · exact hs
  · split
    · exact hP.activateResume _ hs
    · exact hs
  · exact hs

theorem latchFrameBank (hs : P s) : P s.latchFrameBank := by
  simp only [State.latchFrameBank]
  split
  · split
    · exact hP.exchange _ _ hs
    · exact hP.protection _ _ (hP.exchange _ _ hs)
  · exact hP.exchange _ _ hs

theorem settleFrames (word : SlotRecord) (hs : P s) : P (s.settleFrames word) := by
  unfold State.settleFrames
  split
  · exact hP.exchange _ _ hs
  · exact hs

/-- The requests to trunks, timing unit, event unit and channel aside, every request keeps the property. -/
theorem effect (enable : ∀ s t, P s → P (s.enableTrunk t))
    (disable : ∀ s t, t ≠ s.mgmtTrunk → P s → P (s.disableTrunk t))
    (clear : ∀ s t, P s → P (s.countOn t fun _ => .zero))
    (list : ∀ s l, l.Nodup → P s → P (s.replaceReferences l)) (acknowledge : ∀ s set, P s → P (s.acknowledge set))
    (setMask : ∀ s mask interval, P s → P (s.setMask mask interval)) (restart : ∀ s, P s → P s.restarted)
    (s t : State) (hs : P s) (h : s.Effect t) : P t := by
  cases h with
  | unchanged => exact hs
  | entryPut => exact hP.setBank _ _ hs
  | bankCleared => exact hP.setBank _ _ hs
  | switchPending => exact hP.operation _ _ hs
  | resumePending => exact hP.operation _ _ hs
  | copyPending => exact hP.operation _ _ hs
  | cancelled op => exact hP.cancelOperation op hs
  | commanded => exact hP.protection _ _ hs
  | trunkEnabled t => exact enable s t hs
  | trunkDisabled t free => exact disable s t free hs
  | countersCleared t => exact clear s t hs
  | listReplaced l distinct => exact list s l distinct hs
  | phaseKept phase => exact hP.keepAlive phase hs
  | periodChanged => exact hP.supervision _ _ hs
  | fellBack => exact hP.lapseByRequest hs
  | frozeF => exact hP.map _ _ hs
  | acknowledged set => exact acknowledge s set hs
  | masked mask interval => exact setMask s mask interval hs
  | restarted => exact restart s hs

end CarriesBanks

/-- The property reads nothing of banks, exchange, protection records, pending operation, supervision, channel and event
unit. -/
structure BankFree (P : State → Prop) : Prop extends ChannelFree P, CarriesBanks P

namespace BankFree

variable {P : State → Prop} (hP : BankFree P) {s : State}
include hP

theorem restarted (hs : P s) : P s.restarted :=
  hP.supervision _ _ (hP.events _ _ (hP.channel _ _ (hP.channel _ _ hs)))

/-- The requests to the trunks and to the timing unit aside, every request keeps the property. -/
theorem effect (enable : ∀ s t, P s → P (s.enableTrunk t))
    (disable : ∀ s t, t ≠ s.mgmtTrunk → P s → P (s.disableTrunk t))
    (clear : ∀ s t, P s → P (s.countOn t fun _ => .zero))
    (list : ∀ s l, l.Nodup → P s → P (s.replaceReferences l)) : KeptByRequests P where
  toChannelFree := hP.toChannelFree
  effect := hP.toCarriesBanks.effect enable disable clear list (fun _ => hP.acknowledge) (fun _ => hP.setMask)
    fun _ => hP.restarted

end BankFree

/-! ### Items that only resets write -/

/-- A property that reads the queue of commands, the reset line and the straps only is kept by every request. -/
theorem keptByRequests_of_free {P : State → Prop} (hL : LineFree P) (hB : BankFree P) : KeptByRequests P :=
  hB.effect (fun _ t => hL.enableTrunk t) (fun _ t _ => hL.disableTrunk t) (fun _ t => hL.countOn t _)
    (fun _ l _ => hL.replaceReferences l)

theorem keptByStarts_of_free {P : State → Prop} (hL : LineFree P) (hB : BankFree P) : KeptByStarts P where
  toKeptByRequests := keptByRequests_of_free hL hB
  advance _ := hL.advanceFrame
  supervise _ := hB.superviseStart
  activate _ := hB.activateDue
  holdover _ := hL.holdoverStart
  designate _ t := hL.designate t
  latch _ := hB.latchFrameBank
  select _ := hB.protection _ _
  settle _ word := hB.settleFrames word
  repeats _ t := hL.countOn t _

/-- A property that reads neither trunks nor timing is kept on the lines, and where the part is not reset and no start
or copy step is made, it is kept by every command. -/
theorem LineFree.move {P : State → Prop} (hL : LineFree P) (hR : KeptByRequests P) {s t : State} {i : Instr}
    (hs : P s) (powered : ∀ pins low, i = .powerUp pins low → P (s.poweredUp pins low)) (held : P s.heldInReset)
    (released : ∀ pins, s.resetHeld = true → P (s.released pins)) (started : P s.frameStart)
    (copied : P s.copyEngineStep) (h : Move s i t) : P t := by
  cases h with
  | stays => exact hs
  | poweredUp pins low => exact powered pins low rfl
  | heldInReset => exact held
  | released pins hheld => exact released pins hheld
  | started => exact started
  | copied => exact copied
  | searched t line => exact hL.receiverSearches t line hs
  | verified t line => exact hL.receiverVerifies t line hs
  | examined t window => exact hL.receiverAtBoundary t window hs
  | signalLost t => exact hL.receiverSignalLoss t hs
  | signalReturned t => exact hL.receiverSignalReturn t hs
  | delivered t f elapsed => exact hL.deliverFrame (fun _ => hR.takeWord) t f elapsed hs
  | roomHandedOut => exact hR.handOutRoom hs
  | noticesOffered => exact hR.offerNotices hs
  | received _ r => exact hR.receiveRequest r hs

theorem lineFree_pending (l : List Instr) : LineFree fun t => t.pending = l where
  channel _ _ h := h
  events _ _ h := h
  receivers _ _ h := h
  stores _ _ h := h
  timing _ _ h := h

theorem bankFree_pending (l : List Instr) : BankFree fun t => t.pending = l where
  channel _ _ h := h
  events _ _ h := h
  map _ _ h := h
  exchange _ _ h := h
  protection _ _ h := h
  operation _ _ h := h
  supervision _ _ h := h

/-- No command touches the queue of commands. -/
theorem move_pending {s t : State} {i : Instr} (h : Move s i t) : t.pending = s.pending :=
  have hL := lineFree_pending s.pending
  have hB := bankFree_pending s.pending
  hL.move (P := fun t => t.pending = s.pending) (keptByRequests_of_free hL hB) rfl (fun _ _ _ => rfl) rfl
    (fun _ _ => rfl) ((keptByStarts_of_free hL hB).frameStart rfl) (hB.copyEngineStep rfl) h

end Sys2Proof.Machine

open Sys2Proof Sys2Proof.Machine

/-- Settles O1: both clauses are the two branches of the step. -/
theorem stepRunsFrontCommand : Obligations.StepRunsFrontCommand := by
  refine ⟨fun c rest s h => ?front, fun s h => ?idle⟩
  case front => simp only [step, h]
  case idle => simp only [step, h]

/-- Settles O2: every command answers with one of its moves, and no move writes the queue. -/
theorem commandsAnswerNextAndKeepQueue : Obligations.CommandsAnswerNextAndKeepQueue := by
  intro i s
  obtain ⟨t, ht, hmove⟩ := exec_move i s
  exact ⟨t, ht, move_pending hmove⟩

end

section
/-!
The map and the bank controller through every command (R7, R11, R12, R45, R63, R71, R73, R157): entries stay well formed
and protection records in range, and the pending operation and the supervision record keep fitting each other.
-/

namespace Sys2Proof.Machine

open State

/-! ### Roles through an update of the map -/

namespace State

variable (s : State)

@[simp] theorem roles_setBank (b : BankId) (v : Bank) :
    (s.setBank b v).isLapsed = s.isLapsed ∧ (s.setBank b v).liveBank = s.liveBank
    ∧ (s.setBank b v).currentBank = s.currentBank ∧ (s.setBank b v).shadowBank = s.shadowBank
    ∧ (s.setBank b v).reserved = s.reserved := by
  cases b <;> exact ⟨rfl, rfl, rfl, rfl, rfl⟩

theorem liveBank_of_lapsed (h : s.isLapsed = true) : s.liveBank = .f := if_pos h

theorem liveBank_of_not_lapsed (h : s.isLapsed = false) : s.liveBank = s.currentBank := if_neg (by simp [h])

theorem currentBank_ne_f : s.currentBank ≠ .f := by
  unfold currentBank
  cases s.map.current <;> exact nofun

theorem shadowBank_ne_f : s.shadowBank ≠ .f := by
  unfold shadowBank
  cases s.map.current <;> exact nofun

theorem shadowBank_ne_currentBank : s.shadowBank ≠ s.currentBank := by
  unfold shadowBank currentBank
  cases s.map.current <;> exact nofun

/-- The checks that WRITE_ENTRY and CLEAR_BANK share have passed (R14 to R16). -/
theorem bankRefusal_eq_none_iff (b : BankId) :
    s.bankRefusal b = none ↔ b ≠ s.liveBank ∧ s.frozenBank b = false ∧ s.holdsBank b = false := by
  unfold bankRefusal
  split
  next h => simp [h]
  next hlive =>
    split
    next h => simp [h]
    next hfrozen =>
      split
      next h => simp [h]
      next hheld => simp [hlive, hfrozen, hheld]

end State

/-! ### Entries and protection records in range -/

theorem entriesSound_set {es : Table 128 Entry} (h : entriesSound es) (i : Fin 128) {e : Entry}
    (he : e.wellFormed = true) : entriesSound (es.set i e) := by
  intro j
  rw [Table.get_set]
  split
  · exact he
  · exact h j

theorem entriesSound_fill_off : entriesSound (Table.fill 128 .off) := fun i => by
  rw [Table.get_fill]
  rfl

namespace ProtRecord

theorem sound_rest : rest.sound := ⟨rfl, nofun, nofun⟩

theorem sound_commanded {r : ProtRecord} (h : r.sound) (c : ProtCommand) : (r.commanded c).sound := by
  obtain ⟨st, count, command⟩ := r
  cases c with
  | none =>
    refine ⟨?_, nofun, nofun⟩
    cases st with
    | primary | alternate => rfl
    | failing | restoring => exact Nat.zero_le _
  | lockPrimary => exact ⟨rfl, fun _ => rfl, nofun⟩
  | forceAlternate => exact ⟨rfl, nofun, fun _ => rfl⟩

/-- A record without a command is sound when its count suits its state. -/
theorem sound_goes {r : ProtRecord} (hcommand : r.command = .none) {st : ProtState} {n : Nat}
    (hcount : match st with
      | .primary => n = 0
      | .failing => n ≤ 15
      | .alternate => n = 0
      | .restoring => n ≤ 254) : (r.goes st n).sound := by
  refine ⟨hcount, fun h => ?_, fun h => ?_⟩
  · exact nomatch hcommand.symm.trans h
  · exact nomatch hcommand.symm.trans h

theorem sound_holdOffOver {r : ProtRecord} (hcommand : r.command = .none) {holdOff : Nat} (h : holdOff ≤ 15)
    (altFails : Bool) : (r.holdOffOver holdOff altFails).1.sound := by
  cases altFails with
  | false => exact sound_goes hcommand rfl
  | true => exact sound_goes hcommand h

variable {r : ProtRecord} {a : Alternate}

theorem sound_evalPrimary (hcommand : r.command = .none) (fails altFails : Bool) :
    (r.evalPrimary a fails altFails).1.sound := by
  unfold evalPrimary
  split
  · exact sound_goes hcommand rfl
  · split
    · exact sound_goes hcommand (show 1 ≤ 15 by decide)
    · exact sound_holdOffOver hcommand (by decide) altFails

theorem sound_evalFailing (hcommand : r.command = .none) (hhold : a.holdOff ≤ 15) (fails altFails : Bool) :
    (r.evalFailing a fails altFails).1.sound := by
  unfold evalFailing
  split
  · exact sound_goes hcommand rfl
  · split
    next hlt => exact sound_goes hcommand (show r.count + 1 ≤ 15 by omega)
    · exact sound_holdOffOver hcommand hhold altFails

theorem sound_evalAlternate (hcommand : r.command = .none) (fails altFails : Bool) :
    (r.evalAlternate a fails altFails).1.sound := by
  unfold evalAlternate
  split
  · exact sound_goes hcommand rfl
  · split
    · exact sound_goes hcommand rfl
    · split
      · split
        · exact sound_goes hcommand rfl
        · exact sound_goes hcommand (show 1 ≤ 254 by decide)
      · exact sound_goes hcommand rfl

theorem sound_evalRestoring (hcommand : r.command = .none) (hwait : a.waitToRestore ≤ 255) (fails altFails : Bool) :
    (r.evalRestoring a fails altFails).1.sound := by
  unfold evalRestoring
  split
  · exact sound_goes hcommand rfl
  · split
    · exact sound_goes hcommand rfl
    · split
      next hlt => exact sound_goes hcommand (show r.count + 1 ≤ 254 by omega)
      · exact sound_goes hcommand rfl

theorem sound_select (hhold : a.holdOff ≤ 15) (hwait : a.waitToRestore ≤ 255) (fails altFails : Bool) :
    (r.select a fails altFails).1.sound := by
  unfold select
  split
  next hcommand =>
    unfold autoEval
    split
    · exact sound_evalPrimary hcommand fails altFails
    · exact sound_evalFailing hcommand hhold fails altFails
    · exact sound_evalAlternate hcommand fails altFails
    · exact sound_evalRestoring hcommand hwait fails altFails
  next hcommand => exact ⟨rfl, fun _ => rfl, fun hforced => nomatch hcommand.symm.trans hforced⟩
  next hcommand => exact ⟨rfl, fun hlocked => (nomatch hcommand.symm.trans hlocked), fun _ => rfl⟩

end ProtRecord

/-- Selection under a well-formed entry keeps the record in its ranges. -/
theorem State.sound_selectAt (s : State) {e : Entry} (he : e.wellFormed = true) (i : Fin 128) {r : ProtRecord}
    (hr : r.sound) : (s.selectAt e i r).1.sound := by
  unfold State.selectAt
  split
  next p a =>
    simp only [Entry.wellFormed, Bool.and_eq_true, decide_eq_true_eq] at he
    split
    · exact hr
    · exact ProtRecord.sound_select he.1.1.2 he.1.2 _ _
  · exact hr

namespace State.MapSound

variable {s t : State}

theorem bank (h : s.MapSound) (b : BankId) : entriesSound (s.bank b).entries := by
  cases b with
  | bank0 => exact h.bank0
  | bank1 => exact h.bank1
  | f => exact h.bankF

theorem of_banks (hb : ∀ b, entriesSound (s.bank b).entries)
    (hl : ∀ l, s.exchange.latched = some l → entriesSound l.entries) (hp : ∀ i, (s.protection.get i).sound) :
    s.MapSound :=
  ⟨hb .bank0, hb .bank1, hb .f, hl, hp⟩

theorem lineFree : LineFree State.MapSound where
  channel _ _ h := ⟨h.bank0, h.bank1, h.bankF, h.latched, h.protection⟩
  events _ _ h := ⟨h.bank0, h.bank1, h.bankF, h.latched, h.protection⟩
  receivers _ _ h := ⟨h.bank0, h.bank1, h.bankF, h.latched, h.protection⟩
  stores _ _ h := ⟨h.bank0, h.bank1, h.bankF, h.latched, h.protection⟩
  timing _ _ h := ⟨h.bank0, h.bank1, h.bankF, h.latched, h.protection⟩

theorem withOperation (h : s.MapSound) (v : Option PendingOp) : (s.withOperation v).MapSound :=
  ⟨h.bank0, h.bank1, h.bankF, h.latched, h.protection⟩

theorem withSupervision (h : s.MapSound) (v : Supervision) : (s.withSupervision v).MapSound :=
  ⟨h.bank0, h.bank1, h.bankF, h.latched, h.protection⟩

theorem withProtection (h : s.MapSound) {v : Table 128 ProtRecord} (hv : ∀ i, (v.get i).sound) :
    (s.withProtection v).MapSound :=
  ⟨h.bank0, h.bank1, h.bankF, h.latched, hv⟩

theorem withExchange (h : s.MapSound) {v : Exchange} (hv : ∀ l, v.latched = some l → entriesSound l.entries) :
    (s.withExchange v).MapSound :=
  ⟨h.bank0, h.bank1, h.bankF, hv, h.protection⟩

theorem setBank (h : s.MapSound) (b : BankId) {v : Bank} (hv : entriesSound v.entries) : (s.setBank b v).MapSound := by
  refine of_banks (fun c => ?_) ?_ ?_
  · rw [bank_setBank]
    split
    · exact hv
    · exact h.bank c
  · simpa using h.latched
  · simpa using h.protection

theorem setEditCount (h : s.MapSound) (b : BankId) (n : Half) :
    (s.setBank b { s.bank b with editCount := n }).MapSound :=
  h.setBank b (h.bank b)

theorem abandonCopy (h : s.MapSound) (seq : Byte) (dst : BankId) : (s.abandonCopy seq dst).MapSound :=
  lineFree.raise _ _ ((h.setEditCount dst _).withOperation none)

theorem copyEntry (h : s.MapSound) (src dst : BankId) (i : Fin 128) : (s.copyEntry src dst i).MapSound :=
  h.setBank dst (entriesSound_set (h.bank dst) i (h.bank src i))

theorem copyEngineStep (h : s.MapSound) : s.copyEngineStep.MapSound := by
  simp only [State.copyEngineStep]
  split
  · split
    next src dst _ _ hlt =>
      have hcopied := h.copyEntry src dst ⟨_, hlt⟩
      split
      · exact lineFree.raise _ _ ((hcopied.setEditCount dst _).withOperation none)
      · exact hcopied.withOperation _
    · exact h
  · exact h

theorem restUnequal (h : s.MapSound) (old new : Table 128 Entry) : (s.restUnequal old new).MapSound := by
  refine h.withProtection fun i => ?_
  rw [Table.get_ofFn]
  split
  · exact h.protection i
  · exact ProtRecord.sound_rest

theorem protectFallback (h : s.MapSound) : s.protectFallback.MapSound := by
  unfold State.protectFallback
  split
  · exact h
  · exact h.restUnequal _ _

theorem protectResume (h : s.MapSound) : s.protectResume.MapSound := by
  simp only [State.protectResume]
  split
  · exact h.restUnequal _ _
  · exact (h.restUnequal _ _).restUnequal _ _

theorem lapseOperation (h : s.MapSound) (cause : LapseCause) : (s.lapseOperation cause).MapSound := by
  unfold State.lapseOperation
  split
  · exact lineFree.raise _ _ (h.withOperation none)
  · exact h.abandonCopy _ _
  · exact h

theorem cancelOperation (h : s.MapSound) (op : PendingOp) : (s.cancelOperation op).MapSound := by
  cases op with
  | switch seq n expected => exact lineFree.raise _ _ (h.withOperation none)
  | resume seq n => exact lineFree.raise _ _ (h.withOperation none)
  | copy seq src dst n => exact h.abandonCopy _ _

theorem keepAlive (h : s.MapSound) (phase : KeepPhase) : (s.keepAlive phase).2.MapSound := by
  simp only [State.keepAlive]
  split
  · split
    · exact lineFree.raise _ _ h
    · exact h.withSupervision _
  · exact h.withSupervision _

theorem effect (h : s.MapSound) (ht : s.Effect t) : t.MapSound := by
  cases ht with
  | unchanged => exact h
  | entryPut b i e free wf => exact h.setBank b (entriesSound_set (h.bank b) i wf)
  | bankCleared b free => exact h.setBank b entriesSound_fill_off
  | switchPending => exact h.withOperation _
  | resumePending => exact h.withOperation _
  | copyPending => exact h.withOperation _
  | cancelled op => exact h.cancelOperation op
  | commanded i c =>
    refine h.withProtection fun j => ?_
    rw [Table.get_set]
    split
    · exact ProtRecord.sound_commanded (h.protection i) c
    · exact h.protection j
  | trunkEnabled t => exact lineFree.enableTrunk t h
  | trunkDisabled t => exact lineFree.disableTrunk t h
  | countersCleared t => exact lineFree.countOn t _ h
  | listReplaced l => exact lineFree.replaceReferences l h
  | phaseKept phase => exact h.keepAlive phase
  | periodChanged => exact h.withSupervision _
  | fellBack => exact lineFree.raise _ _ ((h.withSupervision _).lapseOperation _).protectFallback
  | frozeF => exact ⟨h.bank0, h.bank1, h.bankF, h.latched, h.protection⟩
  | acknowledged set => exact lineFree.acknowledge set h
  | masked mask interval => exact lineFree.setMask mask interval h
  | restarted => exact (lineFree.events _ _ (lineFree.channel _ _ (lineFree.channel _ _ h))).withSupervision _

theorem superviseStart (h : s.MapSound) : s.superviseStart.MapSound := by
  unfold State.superviseStart
  split
  · split
    · exact lineFree.raise _ _ ((h.withSupervision _).lapseOperation _)
    · exact h.withSupervision _
  · exact h

theorem activateDue (h : s.MapSound) : s.activateDue.MapSound := by
  have hroles : s.exchangeRoles.MapSound := ⟨h.bank0, h.bank1, h.bankF, h.latched, h.protection⟩
  unfold State.activateDue
  split
  · split
    · exact lineFree.raise _ _ (hroles.withOperation none)
    · exact h
  · split
    · exact lineFree.raise _ _ ((h.withSupervision _).protectResume.withOperation none)
    · exact h
  · exact h

theorem latchFrameBank (h : s.MapSound) : s.latchFrameBank.MapSound := by
  have hlatched : (s.withExchange { s.exchange with latched := some s.latchedNow }).MapSound :=
    h.withExchange fun l hl => by
      cases hl
      exact h.bank s.liveBank
  simp only [State.latchFrameBank]
  split
  · split
    · exact hlatched
    · exact hlatched.restUnequal _ _
  · exact hlatched

theorem keptByStarts : KeptByStarts State.MapSound where
  toChannelFree := lineFree.toChannelFree
  effect _ _ h ht := h.effect ht
  advance _ := lineFree.advanceFrame
  supervise _ h := h.superviseStart
  activate _ h := h.activateDue
  holdover _ := lineFree.holdoverStart
  designate _ t := lineFree.designate t
  latch _ h := h.latchFrameBank
  select s h := h.withProtection fun i => by
    rw [Table.get_ofFn]
    exact s.sound_selectAt (h.bank s.liveBank i) i (h.protection i)
  settle s word h := by
    unfold settleFrames
    split
    · exact h.withExchange h.latched
    · exact h
  repeats _ t := lineFree.countOn t _

theorem powerUp (pins : Straps) (now : Nat) : (State.powerUp pins now).MapSound := by
  refine ⟨entriesSound_fill_off, entriesSound_fill_off, entriesSound_fill_off, nofun, fun i => ?_⟩
  rw [show (State.powerUp pins now).protection = Table.fill 128 .rest from rfl, Table.get_fill]
  exact ProtRecord.sound_rest

theorem released (h : s.MapSound) (pins : Straps) : (s.released pins).MapSound := by
  have hnew := powerUp pins s.timing.now
  have hmap : (releasedMap s.map).bank0 = .cleared ∧ (releasedMap s.map).bank1 = .cleared
      ∧ ((releasedMap s.map).bankF = s.map.bankF ∨ (releasedMap s.map).bankF = .cleared) := by
    unfold releasedMap
    split
    · exact ⟨rfl, rfl, .inl rfl⟩
    · exact ⟨rfl, rfl, .inr rfl⟩
  obtain ⟨h0, h1, hF⟩ := hmap
  refine ⟨?_, ?_, ?_, hnew.latched, hnew.protection⟩
  · exact h0 ▸ hnew.bank0
  · exact h1 ▸ hnew.bank1
  · rcases hF with hF | hF
    · exact hF ▸ h.bankF
    · exact hF ▸ hnew.bankF

theorem move {i : Instr} (h : s.MapSound) (hm : Move s i t) : t.MapSound := by
  refine lineFree.move keptByStarts.toKeptByRequests h (fun pins _ _ => ?_) ?_ (fun pins _ => h.released pins)
    (keptByStarts.frameStart h) h.copyEngineStep hm
  · have hnew := powerUp pins 0
    exact ⟨hnew.bank0, hnew.bank1, hnew.bankF, hnew.latched, hnew.protection⟩
  · exact ⟨h.bank0, h.bank1, h.bankF, h.latched, h.protection⟩

end State.MapSound

end Sys2Proof.Machine

end

section
/-!
The pending operation and the supervision record through every command (R63, R71, R73, R157).
-/

namespace Sys2Proof.Machine

open State

/-! ### Lapsed or not -/

theorem State.isLapsed_enterLapsed (s : State) (cause : LapseCause) : (s.enterLapsed cause).isLapsed = true := rfl

/-- SET_SUPERVISION leaves a lapsed part lapsed, and no other lapsed (R165). -/
theorem isLapsed_periodSet (s : State) (n : Half) :
    (s.withSupervision (periodSet s.supervision n)).isLapsed = s.isLapsed := by
  by_cases hn : n = 0#16
  · cases hst : s.supervision.state <;> simp [State.isLapsed, periodSet, hst, hn]
  · cases hst : s.supervision.state <;> simp [State.isLapsed, periodSet, hst, hn]

/-! A KEEP by the state it meets (R159, R160). -/

namespace State

variable {s : State} {phase : KeepPhase}

theorem keepAlive_of_repeated {c : Nat} (hst : s.supervision.state = .watching c)
    (hphase : s.supervision.lastPhase = some phase) : s.keepAlive phase = (.stale, s.raise .staleKeep 0) := by
  simp only [keepAlive, hst, hphase, if_true]

theorem keepAlive_of_new {c : Nat} (hst : s.supervision.state = .watching c)
    (hphase : s.supervision.lastPhase ≠ some phase) :
    s.keepAlive phase = (.ok, s.withSupervision { s.supervision with
      state := .watching s.supervision.period.toNat, lastPhase := some phase }) := by
  simp only [keepAlive, hst, hphase, if_false]

theorem keepAlive_of_unwatched (hst : ∀ c, s.supervision.state ≠ .watching c) :
    s.keepAlive phase = (.ok, s.withSupervision { s.supervision with lastPhase := some phase }) := by
  simp only [keepAlive]

/-- What a KEEP whose checks pass can leave. -/
theorem keepAlive_cases (s : State) (phase : KeepPhase) :
    (s.keepAlive phase).2 = s.raise .staleKeep 0
    ∨ (∃ c, s.supervision.state = .watching c ∧ (s.keepAlive phase).2 = s.withSupervision { s.supervision with
        state := .watching s.supervision.period.toNat, lastPhase := some phase })
    ∨ (s.keepAlive phase).2 = s.withSupervision { s.supervision with lastPhase := some phase } := by
  by_cases hst : ∃ c, s.supervision.state = .watching c
  · obtain ⟨c, hst⟩ := hst
    by_cases hphase : s.supervision.lastPhase = some phase
    · exact .inl (by rw [keepAlive_of_repeated hst hphase])
    · exact .inr (.inl ⟨c, hst, by rw [keepAlive_of_new hst hphase]⟩)
  · exact .inr (.inr (by rw [keepAlive_of_unwatched (not_exists.mp hst)]))

end State

/-! ### The pending operation -/

namespace State

variable {s t : State}

theorem operationSound_of_none (h : s.operation = none) : s.operationSound := by
  simp only [operationSound, h]

theorem operationSound_switch {seq : Byte} {n : Half} {expected : Option Half}
    (h : s.operation = some (.switch seq n expected)) :
    s.operationSound ↔ ∀ x, expected = some x → (s.bank s.shadowBank).editCount = x := by
  simp only [operationSound, h]

theorem operationSound_resume {seq : Byte} {n : Half} (h : s.operation = some (.resume seq n)) :
    s.operationSound ↔ s.isLapsed = true := by
  simp only [operationSound, h]

theorem operationSound_copy {seq : Byte} {src dst : BankId} {n : Nat} (h : s.operation = some (.copy seq src dst n)) :
    s.operationSound ↔ src ≠ dst ∧ dst ≠ s.liveBank ∧ s.frozenBank dst = false ∧ n ≤ 127 := by
  simp only [operationSound, h]

/-- The pending operation reads the roles, the frozen flag, and the edit counts. -/
theorem operationSound_congr (hop : t.operation = s.operation) (hlapsed : t.isLapsed = s.isLapsed)
    (hcurrent : t.map.current = s.map.current) (hfrozen : t.map.frozen = s.map.frozen)
    (hedit : ∀ b, s.holdsBank b = true → (t.bank b).editCount = (s.bank b).editCount) (h : s.operationSound) :
    t.operationSound := by
  have hshadow : t.shadowBank = s.shadowBank := by rw [shadowBank, shadowBank, hcurrent]
  have hlive : t.liveBank = s.liveBank := by rw [liveBank, liveBank, hlapsed, currentBank, currentBank, hcurrent]
  cases hs : s.operation with
  | none => exact operationSound_of_none (hop.trans hs)
  | some op =>
    cases op with
    | switch seq n expected =>
      rw [operationSound_switch hs] at h
      rw [operationSound_switch (hop.trans hs), hshadow, hedit _ (by simp [holdsBank, hs])]
      exact h
    | resume seq n =>
      rw [operationSound_resume hs] at h
      rw [operationSound_resume (hop.trans hs), hlapsed]
      exact h
    | copy seq src dst n =>
      rw [operationSound_copy hs] at h
      rw [operationSound_copy (hop.trans hs), hlive, frozenBank, hfrozen]
      exact h

theorem operationSound_lineFree : LineFree State.operationSound where
  channel s _ h := operationSound_congr (s := s) rfl rfl rfl rfl (fun b _ => by simp) h
  events s _ h := operationSound_congr (s := s) rfl rfl rfl rfl (fun b _ => by simp) h
  receivers s _ h := operationSound_congr (s := s) rfl rfl rfl rfl (fun b _ => by simp) h
  stores s _ h := operationSound_congr (s := s) rfl rfl rfl rfl (fun b _ => by simp) h
  timing s _ h := operationSound_congr (s := s) rfl rfl rfl rfl (fun b _ => by simp) h

theorem operationSound_withProtection (h : s.operationSound) (v : Table 128 ProtRecord) :
    (s.withProtection v).operationSound :=
  operationSound_congr (s := s) rfl rfl rfl rfl (fun b _ => by simp) h

theorem operationSound_withExchange (h : s.operationSound) (v : Exchange) : (s.withExchange v).operationSound :=
  operationSound_congr (s := s) rfl rfl rfl rfl (fun b _ => by simp) h

theorem operationSound_withSupervision (h : s.operationSound) {v : Supervision}
    (hv : (s.withSupervision v).isLapsed = s.isLapsed) : (s.withSupervision v).operationSound :=
  operationSound_congr (s := s) rfl hv rfl rfl (fun b _ => by simp) h

/-- A bank that the operation does not hold may change. -/
theorem operationSound_setBank (h : s.operationSound) {b : BankId} {v : Bank}
    (hv : s.holdsBank b = false ∨ v.editCount = (s.bank b).editCount) : (s.setBank b v).operationSound := by
  refine operationSound_congr (s := s) (by simp) (by simp) (by simp) (by simp) (fun c hc => ?_) h
  rw [bank_setBank]
  split
  next heq =>
    subst heq
    rcases hv with hv | hv
    · exact absurd hc (by simp [hv])
    · exact hv
  · rfl

theorem operationSound_ended (ev : Event) (d : Half) : ((s.withOperation none).raise ev d).operationSound :=
  operationSound_of_none (by simp)

theorem operationSound_abandonCopy (seq : Byte) (dst : BankId) : (s.abandonCopy seq dst).operationSound :=
  operationSound_ended _ _

theorem operationSound_copyEngineStep (h : s.operationSound) : s.copyEngineStep.operationSound := by
  simp only [copyEngineStep]
  split
  next seq src dst n hop =>
    rw [operationSound_copy hop] at h
    obtain ⟨hapart, hlive, hfrozen, hn⟩ := h
    rw [dif_pos (by omega)]
    split
    · exact operationSound_ended _ _
    next hlast =>
      rw [operationSound_copy rfl]
      exact ⟨hapart, by simpa [copyEntry] using hlive, by simpa [copyEntry, frozenBank] using hfrozen, by omega⟩
  · exact h

theorem operationSound_cancelOperation (op : PendingOp) : (s.cancelOperation op).operationSound := by
  cases op with
  | switch seq n expected => exact operationSound_ended _ _
  | resume seq n => exact operationSound_ended _ _
  | copy seq src dst n => exact operationSound_abandonCopy _ _

theorem operationSound_keepAlive (h : s.operationSound) (phase : KeepPhase) :
    (s.keepAlive phase).2.operationSound := by
  obtain hk | ⟨c, hst, hk⟩ | hk := keepAlive_cases s phase
  · rw [hk]
    exact operationSound_lineFree.raise _ _ h
  · rw [hk]
    exact operationSound_withSupervision h (by simp [isLapsed, hst])
  · rw [hk]
    exact operationSound_withSupervision h (by simp [isLapsed])

/-- What a lapse leaves pending is a copy into bank 0 or 1, or a RESUME (R22, R70, R77). -/
theorem operationSound_lapse (h : s.operationSound) (cause : LapseCause) :
    ((s.enterLapsed cause).lapseOperation cause).operationSound := by
  unfold lapseOperation
  split
  · exact operationSound_ended _ _
  · exact operationSound_abandonCopy _ _
  next hswitch hcopy =>
    cases hop : s.operation with
    | none => exact operationSound_of_none hop
    | some op =>
      cases op with
      | switch seq n expected => exact absurd hop (hswitch seq n expected)
      | resume seq n => exact (operationSound_resume (s := s.enterLapsed cause) hop).mpr rfl
      | copy seq src dst n =>
        rw [operationSound_copy hop] at h
        obtain ⟨hapart, -, hfrozen, hn⟩ := h
        refine (operationSound_copy (s := s.enterLapsed cause) hop).mpr ⟨hapart, ?_, hfrozen, hn⟩
        rw [liveBank_of_lapsed _ (isLapsed_enterLapsed s cause)]
        rintro rfl
        exact hcopy seq src n hop

theorem operationSound_protectFallback (h : s.operationSound) : s.protectFallback.operationSound := by
  unfold protectFallback
  split
  · exact h
  · exact operationSound_withProtection h _

theorem operationSound_freeze (h : s.operationSound) (hfree : s.copyInto .f = false) :
    (s.withMap { s.map with frozen := true }).operationSound := by
  generalize hu : s.withMap { s.map with frozen := true } = u
  have hbank (b : BankId) : (u.bank b).editCount = (s.bank b).editCount := by
    subst hu
    cases b <;> rfl
  have hop : u.operation = s.operation := by rw [← hu]; rfl
  have hlapsed : u.isLapsed = s.isLapsed := by rw [← hu]; rfl
  have hshadow : u.shadowBank = s.shadowBank := by rw [← hu]; rfl
  have hlive : u.liveBank = s.liveBank := by rw [← hu]; rfl
  cases hs : s.operation with
  | none => exact operationSound_of_none (hop.trans hs)
  | some op =>
    cases op with
    | switch seq n expected =>
      rw [operationSound_switch (hop.trans hs), hshadow, hbank]
      exact (operationSound_switch hs).mp h
    | resume seq n =>
      rw [operationSound_resume (hop.trans hs), hlapsed]
      exact (operationSound_resume hs).mp h
    | copy seq src dst n =>
      obtain ⟨hapart, hnotLive, -, hn⟩ := (operationSound_copy hs).mp h
      have hdst : dst ≠ .f := by
        rintro rfl
        simp [copyInto, hs] at hfree
      exact (operationSound_copy (hop.trans hs)).mpr ⟨hapart, hlive ▸ hnotLive, by simp [frozenBank, hdst], hn⟩

theorem operationSound_effect (h : s.operationSound) (ht : s.Effect t) : t.operationSound := by
  cases ht with
  | unchanged => exact h
  | entryPut b i e free => exact operationSound_setBank h (.inl ((bankRefusal_eq_none_iff s b).mp free).2.2)
  | bankCleared b free => exact operationSound_setBank h (.inl ((bankRefusal_eq_none_iff s b).mp free).2.2)
  | switchPending seq n expected idle fits => exact (operationSound_switch rfl).mpr (by simpa using fits)
  | resumePending seq n idle lapsed => exact (operationSound_resume rfl).mpr lapsed
  | copyPending seq src dst idle apart notLive notFrozen =>
    exact (operationSound_copy rfl).mpr ⟨apart, notLive, notFrozen, Nat.zero_le _⟩
  | cancelled op => exact operationSound_cancelOperation op
  | commanded => exact operationSound_withProtection h _
  | trunkEnabled t => exact operationSound_lineFree.enableTrunk t h
  | trunkDisabled t => exact operationSound_lineFree.disableTrunk t h
  | countersCleared t => exact operationSound_lineFree.countOn t _ h
  | listReplaced l => exact operationSound_lineFree.replaceReferences l h
  | phaseKept phase => exact operationSound_keepAlive h phase
  | periodChanged n => exact operationSound_withSupervision h (isLapsed_periodSet s n)
  | fellBack =>
    exact operationSound_lineFree.raise _ _ (operationSound_protectFallback (operationSound_lapse h .fallback))
  | frozeF _ free => exact operationSound_freeze h free
  | acknowledged set => exact operationSound_lineFree.acknowledge set h
  | masked mask interval => exact operationSound_lineFree.setMask mask interval h
  | restarted => exact operationSound_congr (s := s) rfl rfl rfl rfl (fun b _ => by cases b <;> rfl) h

theorem operationSound_superviseStart (h : s.operationSound) : s.superviseStart.operationSound := by
  unfold superviseStart
  split
  next c hst =>
    split
    · exact operationSound_lineFree.raise _ _ (operationSound_lapse h .expiry)
    · exact operationSound_withSupervision h (by simp [isLapsed, hst])
  · exact h

theorem operationSound_activateDue (h : s.operationSound) : s.activateDue.operationSound := by
  unfold activateDue
  split
  · split
    · exact operationSound_ended _ _
    · exact h
  · split
    · exact operationSound_ended _ _
    · exact h
  · exact h

theorem operationSound_latchFrameBank (h : s.operationSound) : s.latchFrameBank.operationSound := by
  simp only [latchFrameBank]
  split
  · split
    · exact operationSound_withExchange h _
    · exact operationSound_withProtection (operationSound_withExchange h _) _
  · exact operationSound_withExchange h _

theorem operationSound_keptByStarts : KeptByStarts State.operationSound where
  toChannelFree := operationSound_lineFree.toChannelFree
  effect _ _ h ht := operationSound_effect h ht
  advance _ := operationSound_lineFree.advanceFrame
  supervise _ h := operationSound_superviseStart h
  activate _ h := operationSound_activateDue h
  holdover _ := operationSound_lineFree.holdoverStart
  designate _ t := operationSound_lineFree.designate t
  latch _ h := operationSound_latchFrameBank h
  select _ h := operationSound_withProtection h _
  settle s word h := by
    unfold settleFrames
    split
    · exact operationSound_withExchange h _
    · exact h
  repeats _ t := operationSound_lineFree.countOn t _

/-- The fitness of the pending operation as a structure: stated of a whole start, the bare condition would be computed
where it is only to be named. -/
structure OperationFits (s : State) : Prop where
  sound : s.operationSound

theorem operationFits_keptByStarts : KeptByStarts State.OperationFits where
  channel s c h := ⟨operationSound_keptByStarts.channel s c h.sound⟩
  events s e h := ⟨operationSound_keptByStarts.events s e h.sound⟩
  effect s t h ht := ⟨operationSound_keptByStarts.effect s t h.sound ht⟩
  advance s h := ⟨operationSound_keptByStarts.advance s h.sound⟩
  supervise s h := ⟨operationSound_keptByStarts.supervise s h.sound⟩
  activate s h := ⟨operationSound_keptByStarts.activate s h.sound⟩
  holdover s h := ⟨operationSound_keptByStarts.holdover s h.sound⟩
  designate s t h := ⟨operationSound_keptByStarts.designate s t h.sound⟩
  latch s h := ⟨operationSound_keptByStarts.latch s h.sound⟩
  select s h := ⟨operationSound_keptByStarts.select s h.sound⟩
  settle s word h := ⟨operationSound_keptByStarts.settle s word h.sound⟩
  repeats s t h := ⟨operationSound_keptByStarts.repeats s t h.sound⟩

theorem operationSound_move {i : Instr} (h : s.operationSound) (hm : Move s i t) : t.operationSound :=
  operationSound_lineFree.move operationSound_keptByStarts.toKeptByRequests h
    (fun _ _ _ => operationSound_of_none rfl) (operationSound_congr (s := s) rfl rfl rfl rfl (fun b _ => by cases b <;> rfl) h)
    (fun _ _ => operationSound_of_none rfl) (operationSound_keptByStarts.frameStart h) (operationSound_copyEngineStep h) hm

end State

/-! ### The supervision record -/

/-- The supervision record is within R157: a property of one item. -/
abbrev State.supervisionSound (s : State) : Prop := s.supervision.sound

namespace State

variable {s t : State}

theorem supervisionSound_lineFree : LineFree State.supervisionSound where
  channel _ _ h := h
  events _ _ h := h
  receivers _ _ h := h
  stores _ _ h := h
  timing _ _ h := h

theorem supervisionSound_abandonCopy (h : s.supervisionSound) (seq : Byte) (dst : BankId) :
    (s.abandonCopy seq dst).supervisionSound := by
  unfold supervisionSound at h ⊢
  simpa [abandonCopy, bumpEdit] using h

theorem supervisionSound_lapse (h : s.supervisionSound) (cause : LapseCause) :
    ((s.enterLapsed cause).lapseOperation cause).supervisionSound := by
  have hlapsed : (s.enterLapsed cause).supervisionSound := ⟨h.1, trivial⟩
  unfold lapseOperation
  split
  · exact supervisionSound_lineFree.raise _ _ (s := (s.enterLapsed cause).withOperation none) hlapsed
  · exact supervisionSound_abandonCopy hlapsed _ _
  · exact hlapsed

theorem supervisionSound_protectFallback (h : s.supervisionSound) : s.protectFallback.supervisionSound := by
  unfold protectFallback
  split <;> exact h

theorem supervisionSound_protectResume (h : s.supervisionSound) : s.protectResume.supervisionSound := by
  simp only [protectResume]
  split <;> exact h

theorem Supervision.sound_watching {v : Supervision} (hperiod : 256 ≤ v.period.toNat) (henabled : v.enabled = true)
    (phase : Option KeepPhase) :
    ({ v with state := .watching v.period.toNat, lastPhase := phase } : Supervision).sound :=
  ⟨hperiod, henabled, by omega, le_rfl⟩

theorem supervisionSound_keepAlive (h : s.supervisionSound) (phase : KeepPhase) :
    (s.keepAlive phase).2.supervisionSound := by
  obtain hk | ⟨c, hst, hk⟩ | hk := keepAlive_cases s phase
  · rw [hk]
    exact supervisionSound_lineFree.raise _ _ h
  · obtain ⟨hperiod, hstate⟩ := h
    rw [hst] at hstate
    rw [hk]
    exact Supervision.sound_watching hperiod hstate.1 _
  · rw [hk]
    exact h

theorem supervisionSound_periodSet (h : s.supervisionSound) {n : Half} (hn : n = 0 ∨ 256 ≤ n.toNat) :
    (s.withSupervision (periodSet s.supervision n)).supervisionSound := by
  obtain ⟨hperiod, -⟩ := h
  show (periodSet s.supervision n).sound
  unfold periodSet
  split
  next hzero =>
    refine ⟨hperiod, ?_⟩
    cases s.supervision.state with
    | off => rfl
    | watching c => rfl
    | lapsed c => trivial
  next hne =>
    have hle : 256 ≤ n.toNat := hn.resolve_left hne
    refine ⟨hle, ?_⟩
    cases s.supervision.state with
    | off => exact ⟨rfl, Nat.one_le_of_lt hle, le_rfl⟩
    | watching c => exact ⟨rfl, Nat.one_le_of_lt hle, le_rfl⟩
    | lapsed c => trivial

theorem supervisionSound_effect (h : s.supervisionSound) (ht : s.Effect t) : t.supervisionSound := by
  cases ht with
  | unchanged => exact h
  | entryPut b i e => simpa [supervisionSound, putEntry] using h
  | bankCleared b => simpa [supervisionSound] using h
  | switchPending => exact h
  | resumePending => exact h
  | copyPending => exact h
  | cancelled op =>
    cases op with
    | switch => exact supervisionSound_lineFree.raise _ _ (s := s.withOperation none) h
    | resume => exact supervisionSound_lineFree.raise _ _ (s := s.withOperation none) h
    | copy seq src dst n => exact supervisionSound_abandonCopy h _ _
  | commanded => exact h
  | trunkEnabled t => exact supervisionSound_lineFree.enableTrunk t h
  | trunkDisabled t => exact supervisionSound_lineFree.disableTrunk t h
  | countersCleared t => exact supervisionSound_lineFree.countOn t _ h
  | listReplaced l => exact supervisionSound_lineFree.replaceReferences l h
  | phaseKept phase => exact supervisionSound_keepAlive h phase
  | periodChanged n range => exact supervisionSound_periodSet h range
  | fellBack =>
    exact supervisionSound_lineFree.raise _ _ (supervisionSound_protectFallback (supervisionSound_lapse h .fallback))
  | frozeF => exact h
  | acknowledged set => exact supervisionSound_lineFree.acknowledge set h
  | masked mask interval => exact supervisionSound_lineFree.setMask mask interval h
  | restarted => exact h

theorem supervisionSound_superviseStart (h : s.supervisionSound) : s.superviseStart.supervisionSound := by
  unfold superviseStart
  split
  next c hst =>
    split
    · exact supervisionSound_lineFree.raise _ _ (supervisionSound_lapse h .expiry)
    next hc =>
      obtain ⟨hperiod, hstate⟩ := h
      rw [hst] at hstate
      obtain ⟨henabled, -, hle⟩ := hstate
      exact ⟨hperiod, henabled, show 1 ≤ c - 1 by omega, (Nat.sub_le c 1).trans hle⟩
  · exact h

theorem supervisionSound_leaveLapsed (h : s.supervisionSound) : s.leaveLapsed.supervisionSound := by
  refine ⟨h.1, ?_⟩
  show match (if s.supervision.enabled then SupState.watching s.supervision.period.toNat else .off) with
    | .off => s.supervision.enabled = false
    | .watching c => s.supervision.enabled = true ∧ 1 ≤ c ∧ c ≤ s.supervision.period.toNat
    | .lapsed _ => True
  cases henabled : s.supervision.enabled with
  | false => rfl
  | true => exact ⟨rfl, Nat.one_le_of_lt h.1, le_rfl⟩

theorem supervisionSound_activateDue (h : s.supervisionSound) : s.activateDue.supervisionSound := by
  unfold activateDue
  split
  · split
    · exact supervisionSound_lineFree.raise _ _ (s := s.exchangeRoles.withOperation none) h
    · exact h
  · split
    · exact supervisionSound_lineFree.raise _ _ (s := s.leaveLapsed.protectResume.withOperation none)
        (supervisionSound_protectResume (supervisionSound_leaveLapsed h))
    · exact h
  · exact h

theorem supervisionSound_latchFrameBank (h : s.supervisionSound) : s.latchFrameBank.supervisionSound := by
  simp only [latchFrameBank]
  split
  · split <;> exact h
  · exact h

theorem supervisionSound_keptByStarts : KeptByStarts State.supervisionSound where
  toChannelFree := supervisionSound_lineFree.toChannelFree
  effect _ _ h ht := supervisionSound_effect h ht
  advance _ := supervisionSound_lineFree.advanceFrame
  supervise _ h := supervisionSound_superviseStart h
  activate _ h := supervisionSound_activateDue h
  holdover _ := supervisionSound_lineFree.holdoverStart
  designate _ t := supervisionSound_lineFree.designate t
  latch _ h := supervisionSound_latchFrameBank h
  select _ h := h
  settle s word h := by
    unfold settleFrames
    split <;> exact h
  repeats _ t := supervisionSound_lineFree.countOn t _

theorem supervisionSound_copyEngineStep (h : s.supervisionSound) : s.copyEngineStep.supervisionSound := by
  simp only [copyEngineStep]
  split
  · split
    · split
      · refine supervisionSound_lineFree.raise _ _ ?_
        simpa [supervisionSound, copyEntry] using h
      · simpa [supervisionSound, copyEntry] using h
    · exact h
  · exact h

theorem Supervision.sound_powerUp (supv : Bool) : (Supervision.powerUp supv).sound := by
  cases supv with
  | false => exact ⟨by decide, rfl⟩
  | true => exact ⟨by decide, rfl, by decide, by decide⟩

theorem supervisionSound_move {i : Instr} (h : s.supervisionSound) (hm : Move s i t) : t.supervisionSound := by
  refine supervisionSound_lineFree.move supervisionSound_keptByStarts.toKeptByRequests h
    (fun pins _ _ => Supervision.sound_powerUp pins.supv) h (fun pins _ => ?_) (supervisionSound_keptByStarts.frameStart h)
    (supervisionSound_copyEngineStep h) hm
  show (releasedSupervision s.map.frozen pins.supv).sound
  unfold releasedSupervision
  split
  · exact ⟨(Supervision.sound_powerUp pins.supv).1, trivial⟩
  · exact Supervision.sound_powerUp pins.supv

end State

theorem State.ControlSound.move {s t : State} {i : Instr} (h : s.ControlSound) (hm : Move s i t) : t.ControlSound :=
  ⟨supervisionSound_move h.supervision hm, operationSound_move h.operation hm⟩

end Sys2Proof.Machine

end

section
/-!
The law of R46 through every command: a protection record off rest stands over a protected route of the live bank. A
start may change the live bank before it compares the records with the new one; between the two, `LatchReady` says what
the comparison will find.
-/

namespace Sys2Proof.Machine

open State

theorem Entry.hasAlternate_iff (e : Entry) : e.hasAlternate = true ↔ ∃ t a, e = .route t (some a) := by
  unfold hasAlternate
  split
  next t a => simp
  next h =>
    simp only [Bool.false_eq_true, false_iff]
    rintro ⟨t, a, rfl⟩
    exact h t a rfl

theorem State.protection_withProtection (s : State) (v : Table 128 ProtRecord) : (s.withProtection v).protection = v := rfl

theorem State.reserved_withProtection (s : State) (v : Table 128 ProtRecord) : (s.withProtection v).reserved = s.reserved := rfl

/-- A record off rest after a comparison was off rest before it, at an index whose entries are equal (R60, R61). -/
theorem State.restUnequal_offRest {s : State} {old new : Table 128 Entry} {i : Fin 128}
    (h : (s.restUnequal old new).protection.get i ≠ .rest) :
    s.protection.get i ≠ .rest ∧ old.get i = new.get i := by
  unfold State.restUnequal at h
  rw [State.protection_withProtection, Table.get_ofFn] at h
  split at h
  next heq => exact ⟨h, heq⟩
  next => exact absurd rfl h

/-- Selection takes a record off rest under a protected route only (R46, R49). -/
theorem State.selectAt_offRest {s : State} {e : Entry} {i : Fin 128} {r : ProtRecord}
    (h : (s.selectAt e i r).1 ≠ .rest) : r ≠ .rest ∨ i ≠ s.reserved ∧ ∃ t a, e = .route t (some a) := by
  unfold State.selectAt at h
  split at h
  next p a =>
    split at h
    · exact .inl h
    next hres => exact .inr ⟨hres, p, a, rfl⟩
  · exact .inl h

namespace State

variable {s t : State}

/-- Every record off rest stands over a protected route of the live bank (R46). -/
def OffRestProtected (s : State) : Prop :=
  ∀ i, s.protection.get i ≠ .rest → i ≠ s.reserved ∧ ∃ t a, (s.bank s.liveBank).entries.get i = .route t (some a)

namespace ProtectionSound

/-- The law reads the roles, the live bank's entries, the frame's entry set and the records. -/
theorem congr (h : s.ProtectionSound) (hres : t.reserved = s.reserved) (hlapsed : t.isLapsed = s.isLapsed)
    (hlive : t.liveBank = s.liveBank)
    (hentries : (t.bank s.liveBank).entries = (s.bank s.liveBank).entries)
    (hlatched : t.exchange.latched = s.exchange.latched) (hprot : t.protection = s.protection) :
    t.ProtectionSound where
  offRest i hi := by
    rw [hprot] at hi
    rw [hres, hlive, hentries]
    exact h.offRest i hi
  frameLive l hl hbank := by
    rw [hlive, hentries]
    exact h.frameLive l (hlatched ▸ hl) (hlive ▸ hbank)
  frameBefore l hl hbank := by
    rw [hlive] at hbank ⊢
    exact h.frameBefore l (hlatched ▸ hl) hbank
  firstFrame hl hnot i := by
    have hnot' : s.isLapsed = false := hlapsed ▸ hnot
    have hcurrent : t.currentBank = s.liveBank := by rw [← liveBank_of_not_lapsed t hnot, hlive]
    rw [hcurrent, hentries, liveBank_of_not_lapsed s hnot']
    exact h.firstFrame (hlatched ▸ hl) hnot' i

theorem lineFree : LineFree State.ProtectionSound where
  channel _ _ h := h.congr rfl rfl rfl (by simp) rfl rfl
  events _ _ h := h.congr rfl rfl rfl (by simp) rfl rfl
  receivers _ _ h := h.congr rfl rfl rfl (by simp) rfl rfl
  stores _ _ h := h.congr rfl rfl rfl (by simp) rfl rfl
  timing _ _ h := h.congr rfl rfl rfl (by simp) rfl rfl

theorem withOperation (h : s.ProtectionSound) (v : Option PendingOp) : (s.withOperation v).ProtectionSound :=
  h.congr rfl rfl rfl (by simp) rfl rfl

theorem withSupervision (h : s.ProtectionSound) {v : Supervision}
    (hv : (s.withSupervision v).isLapsed = s.isLapsed) : (s.withSupervision v).ProtectionSound :=
  h.congr rfl hv (by rw [liveBank, liveBank, hv]; rfl) (by simp) rfl rfl

theorem withProtection (h : s.ProtectionSound) {v : Table 128 ProtRecord}
    (hv : (s.withProtection v).OffRestProtected) : (s.withProtection v).ProtectionSound where
  offRest := hv
  frameLive l hl hbank := by simpa using h.frameLive l hl hbank
  frameBefore := h.frameBefore
  firstFrame hl hnot i := by simpa using h.firstFrame hl hnot i

/-- A bank that is not live may change; of the live bank, all but the entries (R14). -/
theorem setBank (h : s.ProtectionSound) {b : BankId} {v : Bank}
    (hb : b ≠ s.liveBank ∨ v.entries = (s.bank b).entries) : (s.setBank b v).ProtectionSound := by
  refine h.congr (by simp) (by simp) (by simp) ?_ (by simp) (by simp)
  rw [bank_setBank]
  split
  next heq => rcases hb with hb | hb
              · exact absurd heq.symm hb
              · rw [hb, heq]
  next => rfl

theorem setEditCount (h : s.ProtectionSound) (b : BankId) (n : Half) :
    (s.setBank b { s.bank b with editCount := n }).ProtectionSound :=
  h.setBank (.inr rfl)

theorem abandonCopy (h : s.ProtectionSound) (seq : Byte) (dst : BankId) : (s.abandonCopy seq dst).ProtectionSound :=
  lineFree.raise _ _ ((h.setEditCount dst _).withOperation none)

theorem cancelOperation (h : s.ProtectionSound) (op : PendingOp) : (s.cancelOperation op).ProtectionSound := by
  cases op with
  | switch seq n expected => exact lineFree.raise _ _ (h.withOperation none)
  | resume seq n => exact lineFree.raise _ _ (h.withOperation none)
  | copy seq src dst n => exact h.abandonCopy _ _

/-- A copy step writes the destination, which is not live (R14, R73). -/
theorem copyEngineStep (h : s.ProtectionSound) (hop : s.operationSound) : s.copyEngineStep.ProtectionSound := by
  simp only [State.copyEngineStep]
  split
  next seq src dst n heq =>
    obtain ⟨-, hlive, -, hn⟩ := (operationSound_copy heq).mp hop
    rw [dif_pos (by omega)]
    have hcopied : (s.copyEntry src dst ⟨n, by omega⟩).ProtectionSound := h.setBank (.inl hlive)
    split
    · exact lineFree.raise _ _ ((hcopied.setEditCount dst _).withOperation none)
    · exact hcopied.withOperation _
  · exact h

theorem keepAlive (h : s.ProtectionSound) (phase : KeepPhase) : (s.keepAlive phase).2.ProtectionSound := by
  obtain hk | ⟨c, hst, hk⟩ | hk := keepAlive_cases s phase
  · rw [hk]
    exact lineFree.raise _ _ h
  · rw [hk]
    exact h.withSupervision (by simp [isLapsed, hst])
  · rw [hk]
    exact h.withSupervision (by simp [isLapsed])

/-- Before a lapse the frame's entry set, if there is one, is the current bank's (R14, R29). -/
theorem latched_of_not_lapsed (h : s.ProtectionSound) (hnot : s.isLapsed = false) {l : Latched}
    (hl : s.exchange.latched = some l) :
    l.bank = s.currentBank ∧ l.entries = (s.bank s.currentBank).entries := by
  have hlive := liveBank_of_not_lapsed s hnot
  have hbank : l.bank = s.liveBank := by
    by_contra hne
    exact currentBank_ne_f s (hlive ▸ h.frameBefore l hl hne)
  exact ⟨hlive ▸ hbank, hlive ▸ h.frameLive l hl hbank⟩

/-- Before the first start after a reset every record is at rest, unless the part is LAPSED. -/
theorem rest_of_first (h : s.ProtectionSound) (hnot : s.isLapsed = false) (hl : s.exchange.latched = none)
    (i : Fin 128) : s.protection.get i = .rest := by
  by_contra hne
  obtain ⟨-, t, a, hentry⟩ := h.offRest i hne
  rw [liveBank_of_not_lapsed s hnot, h.firstFrame hl hnot i] at hentry
  exact nomatch hentry

end ProtectionSound

/-! ### A lapse (R61, R70, R161) -/

/-- A lapse leaves entries, records and the frame's entry set; it may end a copy into F. -/
theorem lapse_frame (s : State) (cause : LapseCause) :
    let u := (s.enterLapsed cause).lapseOperation cause
    u.isLapsed = true ∧ u.reserved = s.reserved ∧ (∀ b, (u.bank b).entries = (s.bank b).entries)
    ∧ u.exchange = s.exchange ∧ u.protection = s.protection := by
  have hbank (b : BankId) : ((s.enterLapsed cause).bank b) = s.bank b := by cases b <;> rfl
  simp only [lapseOperation]
  split
  · refine ⟨?_, ?_, fun b => ?_, ?_, ?_⟩
    · simp [isLapsed, enterLapsed]
    · simp [enterLapsed, reserved, mgmtTrunk]
    · simp [hbank]
    · simp [enterLapsed]
    · simp [enterLapsed]
  · refine ⟨?_, ?_, fun b => ?_, ?_, ?_⟩
    · simp [isLapsed, abandonCopy, bumpEdit, enterLapsed]
    · simp [abandonCopy, bumpEdit, enterLapsed, reserved, mgmtTrunk]
    · simp only [abandonCopy, bumpEdit, bank_raise, bank_withOperation, bank_setBank, hbank]
      split
      next heq => rw [heq]
      next => rfl
    · simp [abandonCopy, bumpEdit, enterLapsed]
    · simp [abandonCopy, bumpEdit, enterLapsed]
  · exact ⟨rfl, rfl, fun b => by rw [hbank], rfl, rfl⟩

namespace ProtectionSound

/-- An accepted FALLBACK: the records that stay off rest stand where the frame's entry set and F agree (R61). -/
theorem lapseByRequest (h : s.ProtectionSound) (hnot : s.isLapsed = false) : s.lapseByRequest.ProtectionSound := by
  refine lineFree.raise _ _ ?_
  obtain ⟨hlapsed, hres, hentries, hexchange, hprot⟩ := lapse_frame s .fallback
  generalize (s.enterLapsed .fallback).lapseOperation .fallback = u at hlapsed hres hentries hexchange hprot
  have hlive : u.liveBank = .f := liveBank_of_lapsed u hlapsed
  unfold protectFallback
  split
  next hl =>
    refine ⟨fun i hi => ?_, fun l hl' => ?_, fun l hl' => ?_, fun _ hnot' => ?_⟩
    · rw [hprot] at hi
      exact absurd (h.rest_of_first hnot (hexchange ▸ hl) i) hi
    · exact nomatch hl.symm.trans hl'
    · exact nomatch hl.symm.trans hl'
    · exact nomatch hlapsed.symm.trans hnot'
  next l hl =>
    obtain ⟨hbank, hset⟩ := h.latched_of_not_lapsed hnot (hexchange ▸ hl)
    refine ⟨fun i hi => ?_, fun l' hl' hbank' => ?_, fun l' hl' _ => hlive, fun hl' => ?_⟩
    · obtain ⟨hoff, heq⟩ := restUnequal_offRest hi
      rw [hprot] at hoff
      obtain ⟨hfree, t, a, hentry⟩ := h.offRest i hoff
      refine ⟨hres ▸ hfree, t, a, ?_⟩
      have hF : ((u.restUnequal l.entries u.map.bankF.entries).bank .f).entries = u.map.bankF.entries := rfl
      rw [show (u.restUnequal l.entries u.map.bankF.entries).liveBank = .f from hlive, hF, ← heq, hset, ← hentry,
        liveBank_of_not_lapsed s hnot]
    · cases hl.symm.trans hl'
      exact absurd (hbank.symm.trans (hbank'.trans hlive)) (currentBank_ne_f s)
    · exact nomatch hl.symm.trans hl'

theorem effect (h : s.ProtectionSound) (ht : s.Effect t) : t.ProtectionSound := by
  cases ht with
  | unchanged => exact h
  | entryPut b i e free => exact h.setBank (.inl ((bankRefusal_eq_none_iff s b).mp free).1)
  | bankCleared b free => exact h.setBank (.inl ((bankRefusal_eq_none_iff s b).mp free).1)
  | switchPending => exact h.withOperation _
  | resumePending => exact h.withOperation _
  | copyPending => exact h.withOperation _
  | cancelled op => exact h.cancelOperation op
  | commanded i c free route =>
    refine h.withProtection fun j hj => ?_
    rw [protection_withProtection, Table.get_set] at hj
    rw [bank_withProtection, liveBank_withProtection, reserved_withProtection]
    split at hj
    next heq => exact heq ▸ ⟨free, (Entry.hasAlternate_iff _).mp route⟩
    next => exact h.offRest j hj
  | trunkEnabled t => exact lineFree.enableTrunk t h
  | trunkDisabled t => exact lineFree.disableTrunk t h
  | countersCleared t => exact lineFree.countOn t _ h
  | listReplaced l => exact lineFree.replaceReferences l h
  | phaseKept phase => exact h.keepAlive phase
  | periodChanged n => exact h.withSupervision (isLapsed_periodSet s n)
  | fellBack watching => exact h.lapseByRequest watching
  | frozeF =>
    refine h.congr rfl rfl rfl ?_ rfl rfl
    cases s.liveBank <;> rfl
  | acknowledged set => exact lineFree.acknowledge set h
  | masked mask interval => exact lineFree.setMask mask interval h
  | restarted =>
    exact (lineFree.events _ _ (lineFree.channel _ _ (lineFree.channel _ _ h))).withSupervision rfl

end ProtectionSound

/-! ### An output frame start (R27, R29, R60) -/

/-- Every record off rest stands over a protected route of the live bank, or of a frame's entry set that the start will
compare with it (R60). -/
def LatchReady (s : State) : Prop :=
  ∀ i, s.protection.get i ≠ .rest → i ≠ s.reserved ∧
    ((∃ t a, (s.bank s.liveBank).entries.get i = .route t (some a))
      ∨ ∃ l, s.exchange.latched = some l ∧ l.bank ≠ s.liveBank ∧ ∃ t a, l.entries.get i = .route t (some a))

theorem latchReady_lineFree : LineFree State.LatchReady where
  channel _ _ h := fun i hi => by simpa using h i hi
  events _ _ h := fun i hi => by simpa using h i hi
  receivers _ _ h := fun i hi => by simpa using h i hi
  stores _ _ h := fun i hi => by simpa using h i hi
  timing _ _ h := fun i hi => by simpa using h i hi

theorem latchReady_withOperation (h : s.LatchReady) (v : Option PendingOp) : (s.withOperation v).LatchReady :=
  fun i hi => by simpa using h i hi

theorem OffRestProtected.latchReady (h : s.OffRestProtected) : s.LatchReady := fun i hi =>
  let ⟨hfree, hroute⟩ := h i hi
  ⟨hfree, .inl hroute⟩

theorem ProtectionSound.latchReady (h : s.ProtectionSound) : s.LatchReady := OffRestProtected.latchReady h.offRest

/-- The live bank goes from the current bank to another one: the frame's entry set holds what the records stood over. -/
theorem ProtectionSound.latchReady_of_change (h : s.ProtectionSound) (hnot : s.isLapsed = false)
    (hres : t.reserved = s.reserved) (hlatched : t.exchange.latched = s.exchange.latched)
    (hprot : t.protection = s.protection) (hlive : t.liveBank ≠ s.currentBank) : t.LatchReady := by
  intro i hi
  rw [hprot] at hi
  cases hl : s.exchange.latched with
  | none => exact absurd (h.rest_of_first hnot hl i) hi
  | some l =>
    obtain ⟨hbank, hset⟩ := h.latched_of_not_lapsed hnot hl
    obtain ⟨hfree, hroute⟩ := h.offRest i hi
    rw [liveBank_of_not_lapsed s hnot, ← hset] at hroute
    exact ⟨hres ▸ hfree, .inr ⟨l, hlatched.trans hl, hbank ▸ hlive.symm, hroute⟩⟩

/-- A lapse by expiry at a start, after which no operation is left that activates (R70, R71). -/
theorem latchReady_lapseByExpiry (h : s.ProtectionSound) (hop : s.operationSound) (hnot : s.isLapsed = false) :
    s.lapseByExpiry.activateDue.LatchReady := by
  obtain ⟨hlapsed, hres, -, hexchange, hprot⟩ := lapse_frame s .expiry
  have hready : s.lapseByExpiry.LatchReady := by
    refine latchReady_lineFree.raise _ _ (h.latchReady_of_change hnot hres (by rw [hexchange]) hprot ?_)
    rw [liveBank_of_lapsed _ hlapsed]
    exact (currentBank_ne_f s).symm
  have hidle : s.lapseByExpiry.activateDue = s.lapseByExpiry := by
    have hoperation : s.lapseByExpiry.operation = ((s.enterLapsed .expiry).lapseOperation .expiry).operation := by
      simp [lapseByExpiry]
    unfold activateDue
    rw [hoperation]
    unfold lapseOperation
    split
    next seq n expected heq =>
      split at heq
      · simp at heq
      · simp [abandonCopy] at heq
      next hswitch _ => exact absurd heq (hswitch seq n expected)
    next seq n heq =>
      split at heq
      · simp at heq
      · simp [abandonCopy] at heq
      next => exact nomatch hnot.symm.trans ((operationSound_resume (s := s) heq).mp hop)
    next => rfl
  rw [hidle]
  exact hready

/-- A record that the activation of a RESUME leaves off rest was off rest, where F and the current bank agree. -/
theorem protectResume_offRest {i : Fin 128} (h : s.protectResume.protection.get i ≠ .rest) :
    s.protection.get i ≠ .rest ∧ s.map.bankF.entries.get i = (s.bank s.currentBank).entries.get i := by
  simp only [protectResume] at h
  split at h
  · exact restUnequal_offRest h
  · exact restUnequal_offRest (restUnequal_offRest h).1

theorem protectResume_withProtection (s : State) : ∃ v, s.protectResume = s.withProtection v := by
  simp only [protectResume]
  split <;> exact ⟨_, rfl⟩

theorem isLapsed_leaveLapsed (s : State) : s.leaveLapsed.isLapsed = false := by
  simp only [leaveLapsed, isLapsed, fields_withSupervision]
  cases s.supervision.enabled <;> rfl

/-- A RESUME that activates: the records that stay off rest stand where F and the current bank agree (R72). -/
theorem latchReady_activateResume (h : s.ProtectionSound) (hlapsed : s.isLapsed = true) (seq : Byte) :
    (s.activateResume seq).LatchReady := by
  refine latchReady_lineFree.raise _ _ (latchReady_withOperation (OffRestProtected.latchReady fun i hi => ?_) none)
  have hbank (b : BankId) : s.leaveLapsed.bank b = s.bank b := by cases b <;> rfl
  obtain ⟨hoff, hsame⟩ := protectResume_offRest hi
  obtain ⟨hfree, t, a, hentry⟩ := h.offRest i hoff
  obtain ⟨v, hv⟩ := protectResume_withProtection s.leaveLapsed
  rw [hv, bank_withProtection, liveBank_withProtection, liveBank_of_not_lapsed _ (isLapsed_leaveLapsed s), ← hsame]
  rw [liveBank_of_lapsed s hlapsed] at hentry
  exact ⟨hfree, t, a, hentry⟩

/-- Activation leaves what the comparison of the start will settle. -/
theorem latchReady_activateDue (h : s.ProtectionSound) (hop : s.operationSound) : s.activateDue.LatchReady := by
  unfold activateDue
  split
  next seq n expected _ =>
    split
    · refine latchReady_lineFree.raise _ _ (latchReady_withOperation ?_ none)
      cases hl : s.isLapsed with
      | true =>
        refine OffRestProtected.latchReady fun i hi => ?_
        have hlive : s.exchangeRoles.liveBank = s.liveBank :=
          (liveBank_of_lapsed s.exchangeRoles hl).trans (liveBank_of_lapsed s hl).symm
        rw [hlive, liveBank_of_lapsed s hl]
        have hoff := h.offRest i hi
        rwa [liveBank_of_lapsed s hl] at hoff
      | false =>
        refine h.latchReady_of_change hl rfl rfl rfl ?_
        rw [liveBank_of_not_lapsed s.exchangeRoles hl]
        exact shadowBank_ne_currentBank s
    · exact h.latchReady
  next seq n heq =>
    split
    · exact latchReady_activateResume h ((operationSound_resume heq).mp hop) seq
    · exact h.latchReady
  · exact h.latchReady

/-- With the live bank latched, the law is what it says of the records. -/
theorem protectionSound_of_latched {u : State} (hu : u.exchange.latched = some s.latchedNow)
    (hlive : u.liveBank = s.liveBank) (hbank : u.bank s.liveBank = s.bank s.liveBank) (hoff : u.OffRestProtected) :
    u.ProtectionSound := by
  refine ⟨hoff, fun l hl _ => ?_, fun l hl hne => ?_, fun hl => ?_⟩
  · cases hu.symm.trans hl
    rw [hlive, hbank]
    rfl
  · cases hu.symm.trans hl
    exact absurd hlive.symm hne
  · exact nomatch hu.symm.trans hl

/-- The latch compares the records with the new frame bank, after which the law holds (R27, R29, R60). -/
theorem LatchReady.latchFrameBank (h : s.LatchReady) : s.latchFrameBank.ProtectionSound := by
  simp only [State.latchFrameBank]
  split
  next old hold =>
    split
    next heq =>
      refine protectionSound_of_latched rfl rfl (by simp) fun i hi => ?_
      obtain ⟨hfree, hroute | ⟨l, hl, hne, -⟩⟩ := h i hi
      · exact ⟨hfree, by simpa using hroute⟩
      · cases hold.symm.trans hl
        exact absurd heq hne
    next =>
      refine protectionSound_of_latched rfl rfl (by simp [restUnequal]) fun i hi => ?_
      obtain ⟨hoff, hsame⟩ := restUnequal_offRest hi
      obtain ⟨hfree, hroute | ⟨l, hl, -, hroute⟩⟩ := h i hoff
      · exact ⟨hfree, by simpa [restUnequal] using hroute⟩
      · cases hold.symm.trans hl
        rw [hsame] at hroute
        exact ⟨hfree, by simpa [restUnequal, latchedNow] using hroute⟩
  next hnone =>
    refine protectionSound_of_latched rfl rfl (by simp) fun i hi => ?_
    obtain ⟨hfree, hroute | ⟨l, hl, -⟩⟩ := h i hi
    · exact ⟨hfree, by simpa using hroute⟩
    · exact nomatch hnone.symm.trans hl

theorem ProtectionSound.selectAll (h : s.ProtectionSound) : (s.selectAll s.latchedNow.entries).ProtectionSound := by
  refine h.withProtection fun i hi => ?_
  rw [protection_withProtection, Table.get_ofFn] at hi
  rw [bank_withProtection, liveBank_withProtection, reserved_withProtection]
  rcases selectAt_offRest hi with hoff | hroute
  · exact h.offRest i hoff
  · exact hroute

/-- The law with the fitness of the pending operation, which together every command keeps. -/
structure GuardedProtection (s : State) : Prop where
  operation : s.OperationFits
  law : s.ProtectionSound

theorem guardedProtection_lineFree : LineFree State.GuardedProtection where
  channel _ _ h := ⟨⟨operationSound_lineFree.channel _ _ h.operation.sound⟩, ProtectionSound.lineFree.channel _ _ h.law⟩
  events _ _ h := ⟨⟨operationSound_lineFree.events _ _ h.operation.sound⟩, ProtectionSound.lineFree.events _ _ h.law⟩
  receivers _ _ h :=
    ⟨⟨operationSound_lineFree.receivers _ _ h.operation.sound⟩, ProtectionSound.lineFree.receivers _ _ h.law⟩
  stores _ _ h := ⟨⟨operationSound_lineFree.stores _ _ h.operation.sound⟩, ProtectionSound.lineFree.stores _ _ h.law⟩
  timing _ _ h := ⟨⟨operationSound_lineFree.timing _ _ h.operation.sound⟩, ProtectionSound.lineFree.timing _ _ h.law⟩

theorem guardedProtection_keptByRequests : KeptByRequests State.GuardedProtection where
  toChannelFree := guardedProtection_lineFree.toChannelFree
  effect _ _ h ht := ⟨⟨operationSound_effect h.operation.sound ht⟩, h.law.effect ht⟩

/-- Numbered and supervised, a start is ready for its comparison once the pending operation has had its turn. -/
theorem GuardedProtection.latchReady (h : s.GuardedProtection) :
    s.advanceFrame.superviseStart.activateDue.LatchReady := by
  obtain ⟨⟨hop⟩, hlaw⟩ : s.advanceFrame.GuardedProtection := guardedProtection_lineFree.advanceFrame h
  generalize s.advanceFrame = u at hop hlaw
  unfold superviseStart
  split
  next c hst =>
    have hnot : u.isLapsed = false := by simp [isLapsed, hst]
    split
    · exact latchReady_lapseByExpiry hlaw hop hnot
    · have hsame : (u.withSupervision { u.supervision with state := .watching (c - 1) }).isLapsed = u.isLapsed :=
        hnot.symm
      exact latchReady_activateDue (hlaw.withSupervision hsame) (operationSound_withSupervision hop hsame)
  · exact latchReady_activateDue hlaw hop

theorem LatchReady.exchangeStart (h : s.LatchReady) : s.exchangeStart.ProtectionSound :=
  ProtectionSound.lineFree.raiseAll _ (ProtectionSound.lineFree.raiseAll _ h.latchFrameBank.selectAll)

theorem GuardedProtection.beforeSettling (h : s.GuardedProtection) : s.beforeSettling.GuardedProtection := by
  refine ⟨operationFits_keptByStarts.beforeSettling h.operation, ?_⟩
  unfold State.beforeSettling
  have hready := latchReady_lineFree.designateAll (latchReady_lineFree.holdoverStart h.latchReady)
  exact ProtectionSound.lineFree.renotifyStart hready.exchangeStart

theorem GuardedProtection.settleFrames (h : s.GuardedProtection) (word : SlotRecord) :
    (s.settleFrames word).GuardedProtection := by
  refine ⟨operationFits_keptByStarts.settle s word h.operation, ?_⟩
  unfold State.settleFrames
  split
  next => exact h.law.congr rfl rfl rfl (by simp) rfl rfl
  next => exact h.law

theorem GuardedProtection.frameStart (h : s.GuardedProtection) : s.frameStart.GuardedProtection :=
  guardedProtection_lineFree.repeatSlips _
    (guardedProtection_keptByRequests.transmitStart (h.beforeSettling.settleFrames _))

/-- A reset leaves every record at rest, no frame's entry set, and the current bank clear. -/
theorem protectionSound_of_reset (hprot : ∀ i, s.protection.get i = .rest) (hlatched : s.exchange.latched = none)
    (hcurrent : ∀ i, (s.bank s.currentBank).entries.get i = .off) : s.ProtectionSound where
  offRest i hi := absurd (hprot i) hi
  frameLive _ hl := nomatch hlatched.symm.trans hl
  frameBefore _ hl := nomatch hlatched.symm.trans hl
  firstFrame _ _ := hcurrent

theorem protectionSound_powerUp (pins : Straps) (now : Nat) : (State.powerUp pins now).ProtectionSound :=
  protectionSound_of_reset (fun i => Table.get_fill _ i) rfl fun i => Table.get_fill _ i

theorem protectionSound_released (s : State) (pins : Straps) : (s.released pins).ProtectionSound := by
  refine protectionSound_of_reset (fun i => Table.get_fill _ i) rfl fun i => ?_
  have hmap : (releasedMap s.map).bank0 = .cleared ∧ (releasedMap s.map).current = .bank0 := by
    unfold releasedMap
    split <;> exact ⟨rfl, rfl⟩
  have hbank : (s.released pins).bank (s.released pins).currentBank = .cleared := by
    rw [show (s.released pins).currentBank = .bank0 from congrArg MainBank.toBank hmap.2]
    exact hmap.1
  rw [hbank]
  exact Table.get_fill _ i

theorem GuardedProtection.move {i : Instr} (h : s.GuardedProtection) (hm : Move s i t) : t.GuardedProtection := by
  have hop := h.operation.sound
  refine guardedProtection_lineFree.move guardedProtection_keptByRequests h (fun pins _ _ => ?powered) ?held
    (fun pins _ => ⟨⟨operationSound_of_none rfl⟩, protectionSound_released s pins⟩) h.frameStart
    ⟨⟨operationSound_copyEngineStep hop⟩, h.law.copyEngineStep hop⟩ hm
  case powered =>
    exact ⟨⟨operationSound_of_none rfl⟩, (protectionSound_powerUp pins 0).congr rfl rfl rfl rfl rfl rfl⟩
  case held =>
    exact ⟨⟨operationSound_move hop (.heldInReset 1)⟩, h.law.congr rfl rfl rfl (by cases s.liveBank <;> rfl) rfl rfl⟩

end State

end Sys2Proof.Machine

open Sys2Proof Sys2Proof.Machine

/-- Settles O57: every move keeps each of the three, the law of R46 with the help of the pending operation's fitness. -/
theorem stepKeepsMapAndControlSound : Obligations.StepKeepsMapAndControlSound := by
  refine ⟨fun s t hs h => ?map, fun s t hs h => ?control, fun s t hc hp h => ?protection⟩
  case map =>
    exact step_keeps (fun _ _ h => ⟨h.bank0, h.bank1, h.bankF, h.latched, h.protection⟩) (fun _ _ _ h hm => h.move hm) hs h
  case control =>
    refine step_keeps (P := State.ControlSound) (fun u _ h => ⟨h.supervision, ?_⟩) (fun _ _ _ h hm => h.move hm) hs h
    exact State.operationSound_congr (s := u) rfl rfl rfl rfl (fun b _ => by simp) h.operation
  case protection =>
    refine (step_keeps (P := State.GuardedProtection) (fun u _ h => ⟨⟨?_⟩, ?_⟩)
      (fun _ _ _ h hm => h.move hm) ⟨⟨hc.operation⟩, hp⟩ h).law
    · exact State.operationSound_congr (s := u) rfl rfl rfl rfl (fun b _ => by simp) h.operation.sound
    · exact h.law.congr rfl rfl rfl (by simp) rfl rfl

end

section
/-!
What commands leave: the live bank through requests and copy steps (R14), a frozen F (R6), the output frame counter
(R117), and a part held in reset (R187).
-/

namespace Sys2Proof.Machine

open State

namespace State

variable {s t : State}

/-! ### Entries through requests (R14) -/

theorem bank_withMap_frozen (s : State) (b : BankId) : (s.withMap { s.map with frozen := true }).bank b = s.bank b := by
  cases b <;> rfl

/-- The entries of the banks are the same. -/
abbrev SameEntries (s t : State) : Prop := ∀ b, (t.bank b).entries = (s.bank b).entries

/-- Having the entries of one moment is a property of neither the lines nor the channel. -/
theorem lineFree_sameEntries (s : State) : LineFree s.SameEntries where
  channel _ _ h b := by simpa using h b
  events _ _ h b := by simpa using h b
  receivers _ _ h b := by simpa using h b
  stores _ _ h b := by simpa using h b
  timing _ _ h b := by simpa using h b

theorem sameEntries_setEditCount (s : State) (b : BankId) (n : Half) :
    s.SameEntries (s.setBank b { s.bank b with editCount := n }) := fun c => by
  rw [bank_setBank]
  split
  next h => rw [h]
  next => rfl

theorem sameEntries_abandonCopy (s : State) (seq : Byte) (dst : BankId) : s.SameEntries (s.abandonCopy seq dst) := by
  refine (lineFree_sameEntries s).raise _ _ fun b => ?_
  rw [bank_withOperation]
  exact sameEntries_setEditCount s dst _ b

theorem sameEntries_cancelOperation (s : State) (op : PendingOp) : s.SameEntries (s.cancelOperation op) := by
  cases op with
  | switch seq n expected => exact (lineFree_sameEntries s).raise _ _ fun b => by simp
  | resume seq n => exact (lineFree_sameEntries s).raise _ _ fun b => by simp
  | copy seq src dst n => exact sameEntries_abandonCopy s seq dst

theorem sameEntries_lapseByRequest (s : State) : s.SameEntries s.lapseByRequest := by
  obtain ⟨-, -, hentries, -, -⟩ := lapse_frame s .fallback
  refine (lineFree_sameEntries s).raise _ _ ?_
  unfold protectFallback
  split
  · exact hentries
  · exact fun b => by rw [restUnequal, bank_withProtection]; exact hentries b

/-- WRITE_ENTRY and CLEAR_BANK aside, no request changes an entry; those two change a bank that is not live (R14). -/
theorem effect_liveEntries (h : s.Effect t) : (t.bank s.liveBank).entries = (s.bank s.liveBank).entries := by
  have hrefl : s.SameEntries s := fun _ => rfl
  cases h with
  | unchanged => rfl
  | entryPut b i e free => rw [putEntry, bank_setBank, if_neg ((bankRefusal_eq_none_iff s b).mp free).1.symm]
  | bankCleared b free => rw [bank_setBank, if_neg ((bankRefusal_eq_none_iff s b).mp free).1.symm]
  | switchPending => simp
  | resumePending => simp
  | copyPending => simp
  | cancelled op => exact sameEntries_cancelOperation s op _
  | commanded => simp [commandRecord]
  | trunkEnabled t => exact (lineFree_sameEntries s).enableTrunk t hrefl _
  | trunkDisabled t => exact (lineFree_sameEntries s).disableTrunk t hrefl _
  | countersCleared t => exact (lineFree_sameEntries s).countOn t _ hrefl _
  | listReplaced l => exact (lineFree_sameEntries s).replaceReferences l hrefl _
  | phaseKept phase => obtain hk | ⟨_, _, hk⟩ | hk := keepAlive_cases s phase <;> simp [hk]
  | periodChanged => simp
  | fellBack => exact sameEntries_lapseByRequest s _
  | frozeF => rw [bank_withMap_frozen]
  | acknowledged set => exact (lineFree_sameEntries s).acknowledge set hrefl _
  | masked mask interval => exact (lineFree_sameEntries s).setMask mask interval hrefl _
  | restarted => simp [restarted, clearRecords, withdraw]

/-- A copy step changes entries of the destination only. -/
theorem copyEngineStep_entries {b : BankId} (h : ∀ seq src dst n, s.operation = some (.copy seq src dst n) → dst ≠ b) :
    (s.copyEngineStep.bank b).entries = (s.bank b).entries := by
  simp only [copyEngineStep]
  split
  next seq src dst n hop =>
    have hne : b ≠ dst := (h seq src dst n hop).symm
    split
    · split <;> simp [completeCopy, copyEntry, bank_setBank, hne]
    · rfl
  · rfl

/-! ### A frozen F (R6) -/

/-- F and its frozen flag stand as they stood at one moment, and the pending operation is one that leaves them. -/
structure FrozenAs (v : Bank) (s : State) : Prop where
  bank : s.bank .f = v
  frozen : s.map.frozen = true
  fits : s.OperationFits

variable {v : Bank}

theorem frozenAs_lineFree : LineFree (FrozenAs v) where
  channel s _ h := ⟨by simpa using h.bank, h.frozen, operationFits_keptByStarts.channel s _ h.fits⟩
  events s _ h := ⟨by simpa using h.bank, h.frozen, operationFits_keptByStarts.events s _ h.fits⟩
  receivers s _ h := ⟨by simpa using h.bank, h.frozen, ⟨operationSound_lineFree.receivers s _ h.fits.sound⟩⟩
  stores s _ h := ⟨by simpa using h.bank, h.frozen, ⟨operationSound_lineFree.stores s _ h.fits.sound⟩⟩
  timing s _ h := ⟨by simpa using h.bank, h.frozen, ⟨operationSound_lineFree.timing s _ h.fits.sound⟩⟩

/-- A frozen F is no destination of a copy (R73). -/
theorem FrozenAs.dest_ne_f (h : s.FrozenAs v) {seq : Byte} {src dst : BankId} {n : Nat}
    (hop : s.operation = some (.copy seq src dst n)) : dst ≠ .f := by
  rintro rfl
  have hfits := (operationSound_copy hop).mp h.fits.sound
  simp [frozenBank, h.frozen] at hfits

theorem FrozenAs.setBank (h : s.FrozenAs v) {b : BankId} (hb : b ≠ .f) {w : Bank} (hfits : (s.setBank b w).OperationFits) :
    (s.setBank b w).FrozenAs v :=
  ⟨by rw [bank_setBank, if_neg hb.symm, h.bank], by simpa using h.frozen, hfits⟩

/-- F and its flag read the same after what leaves the map and the pending operation fitting. -/
theorem FrozenAs.of_map (h : s.FrozenAs v) (hmap : t.map = s.map) (hfits : t.OperationFits) : t.FrozenAs v :=
  ⟨(congrArg ConnectionMap.bankF hmap).trans h.bank, hmap ▸ h.frozen, hfits⟩

theorem map_protectFallback (s : State) : s.protectFallback.map = s.map := by
  unfold protectFallback
  split <;> rfl

theorem map_protectResume (s : State) : s.protectResume.map = s.map := by
  obtain ⟨v, hv⟩ := protectResume_withProtection s
  rw [hv]
  rfl

theorem map_latchFrameBank (s : State) : s.latchFrameBank.map = s.map := by
  simp only [latchFrameBank]
  split
  · split <;> rfl
  · rfl

theorem map_settleFrames (s : State) (word : SlotRecord) : (s.settleFrames word).map = s.map := by
  unfold settleFrames
  split <;> rfl

/-- A lapse changes the map only where it abandons a copy into F (R22, R70). -/
theorem map_lapse (s : State) (cause : LapseCause)
    (h : ∀ seq src n, s.operation ≠ some (.copy seq src .f n)) :
    ((s.enterLapsed cause).lapseOperation cause).map = s.map := by
  unfold lapseOperation
  split
  · simp [enterLapsed]
  next seq src n hop => exact absurd hop (h seq src n)
  · rfl

theorem FrozenAs.map_lapse (h : s.FrozenAs v) (cause : LapseCause) :
    ((s.enterLapsed cause).lapseOperation cause).map = s.map :=
  State.map_lapse s cause fun _ _ _ hop => h.dest_ne_f hop rfl

theorem FrozenAs.cancelOperation (h : s.FrozenAs v) {op : PendingOp} (hop : s.operation = some op) :
    (s.cancelOperation op).FrozenAs v := by
  cases op with
  | switch seq n expected => exact h.of_map (by simp [State.cancelOperation]) ⟨operationSound_cancelOperation _⟩
  | resume seq n => exact h.of_map (by simp [State.cancelOperation]) ⟨operationSound_cancelOperation _⟩
  | copy seq src dst n =>
    refine ⟨?_, ?_, ⟨operationSound_cancelOperation _⟩⟩
    · simp [State.cancelOperation, abandonCopy, bumpEdit, bank_setBank, (h.dest_ne_f hop).symm, h.bank]
    · simp [State.cancelOperation, abandonCopy, bumpEdit, h.frozen]

theorem FrozenAs.effect (h : s.FrozenAs v) (ht : s.Effect t) : t.FrozenAs v := by
  have hfits : t.OperationFits := ⟨operationSound_effect h.fits.sound ht⟩
  have hfree {b : BankId} (hb : s.bankRefusal b = none) : b ≠ .f := by
    rintro rfl
    have hfrozen := ((bankRefusal_eq_none_iff s .f).mp hb).2.1
    simp [frozenBank, h.frozen] at hfrozen
  cases ht with
  | unchanged => exact h
  | entryPut b i e free => exact h.setBank (hfree free) hfits
  | bankCleared b free => exact h.setBank (hfree free) hfits
  | switchPending => exact h.of_map rfl hfits
  | resumePending => exact h.of_map rfl hfits
  | copyPending => exact h.of_map rfl hfits
  | cancelled op pending => exact h.cancelOperation pending
  | commanded => exact h.of_map rfl hfits
  | trunkEnabled t => exact frozenAs_lineFree.enableTrunk t h
  | trunkDisabled t => exact frozenAs_lineFree.disableTrunk t h
  | countersCleared t => exact frozenAs_lineFree.countOn t _ h
  | listReplaced l => exact frozenAs_lineFree.replaceReferences l h
  | phaseKept phase =>
    refine h.of_map ?_ hfits
    obtain hk | ⟨_, _, hk⟩ | hk := keepAlive_cases s phase <;> simp [hk]
  | periodChanged => exact h.of_map rfl hfits
  | fellBack =>
    refine h.of_map ?_ hfits
    simp only [lapseByRequest, fields_raise, map_protectFallback, h.map_lapse]
  | frozeF thawed => exact absurd h.frozen (by simp [thawed])
  | acknowledged set => exact frozenAs_lineFree.acknowledge set h
  | masked mask interval => exact frozenAs_lineFree.setMask mask interval h
  | restarted => exact h.of_map rfl hfits

theorem FrozenAs.superviseStart (h : s.FrozenAs v) : s.superviseStart.FrozenAs v := by
  refine h.of_map ?_ (operationFits_keptByStarts.supervise s h.fits)
  unfold State.superviseStart
  split
  · split
    · simp only [lapseByExpiry, fields_raise, h.map_lapse]
    · rfl
  · rfl

theorem FrozenAs.activateDue (h : s.FrozenAs v) : s.activateDue.FrozenAs v := by
  have hfits := operationFits_keptByStarts.activate s h.fits
  have hkeeps : s.activateDue.bank .f = s.bank .f ∧ s.activateDue.map.frozen = s.map.frozen := by
    unfold State.activateDue
    split
    · split
      · exact ⟨(bank_raise _ _ _ _).trans rfl, by simp [activateSwitch, raiseSwitchDone, exchangeRoles]⟩
      · exact ⟨rfl, rfl⟩
    · split
      · have hmap : s.leaveLapsed.protectResume.map = s.map := map_protectResume _
        exact ⟨(bank_raise _ _ _ _).trans ((bank_withOperation _ _ _).trans (congrArg ConnectionMap.bankF hmap)),
          by simp [activateResume, raiseSwitchDone, hmap]⟩
      · exact ⟨rfl, rfl⟩
    · exact ⟨rfl, rfl⟩
  exact ⟨hkeeps.1.trans h.bank, hkeeps.2.trans h.frozen, hfits⟩

theorem frozenAs_keptByStarts : KeptByStarts (FrozenAs v) where
  toChannelFree := frozenAs_lineFree.toChannelFree
  effect _ _ h ht := h.effect ht
  advance _ := frozenAs_lineFree.advanceFrame
  supervise _ h := h.superviseStart
  activate _ h := h.activateDue
  holdover _ := frozenAs_lineFree.holdoverStart
  designate _ t := frozenAs_lineFree.designate t
  latch s h := h.of_map (map_latchFrameBank s) (operationFits_keptByStarts.latch s h.fits)
  select s h := h.of_map rfl (operationFits_keptByStarts.select s h.fits)
  settle s word h := h.of_map (map_settleFrames s word) (operationFits_keptByStarts.settle s word h.fits)
  repeats _ t := frozenAs_lineFree.countOn t _

theorem FrozenAs.copyEngineStep (h : s.FrozenAs v) : s.copyEngineStep.FrozenAs v := by
  have hfits : s.copyEngineStep.OperationFits := ⟨operationSound_copyEngineStep h.fits.sound⟩
  have hkeeps : s.copyEngineStep.bank .f = s.bank .f ∧ s.copyEngineStep.map.frozen = s.map.frozen := by
    simp only [State.copyEngineStep]
    split
    next seq src dst n hop =>
      have hne : BankId.f ≠ dst := (h.dest_ne_f hop).symm
      split
      · split
        · simp [completeCopy, copyEntry, bank_setBank, hne]
        · simp [copyEntry, bank_setBank, hne]
      · exact ⟨rfl, rfl⟩
    · exact ⟨rfl, rfl⟩
  exact ⟨hkeeps.1.trans h.bank, hkeeps.2.trans h.frozen, hfits⟩

/-- The release of RESET_N keeps a frozen F (R25). -/
theorem FrozenAs.released (h : s.FrozenAs v) (pins : Straps) : (s.released pins).FrozenAs v := by
  have hmap : releasedMap s.map = { ConnectionMap.powerUp with bankF := s.map.bankF, frozen := true } := if_pos h.frozen
  refine ⟨?_, ?_, ⟨operationSound_of_none rfl⟩⟩
  · exact (congrArg ConnectionMap.bankF hmap).trans h.bank
  · exact congrArg ConnectionMap.frozen hmap

theorem FrozenAs.move {i : Instr} (h : s.FrozenAs v) (hm : Move s i t) (hi : ∀ pins low, i ≠ .powerUp pins low) :
    t.FrozenAs v :=
  frozenAs_lineFree.move frozenAs_keptByStarts.toKeptByRequests h (fun pins low hpower => absurd hpower (hi pins low))
    (h.of_map rfl ⟨operationSound_move h.fits.sound (.heldInReset 1)⟩) (fun pins _ => h.released pins)
    (frozenAs_keptByStarts.frameStart h) h.copyEngineStep hm

end State

/-! ### A part held in reset (R44, R187) -/

/-- A part held in reset acts on no command but those of power-up and of RESET_N. -/
theorem exec_of_held {s : State} {i : Instr} (hs : s.resetHeld = true) (hpower : ∀ pins low, i ≠ .powerUp pins low)
    (hlow : ∀ clocks, i ≠ .resetNLow clocks) (hrelease : ∀ pins, i ≠ .resetNRelease pins) : exec i s = .next s := by
  have hstart : s.makeStart = s := if_neg (by simp [startDue, hs])
  have hif (c : Bool) : (if c then s.makeStart else s) = s := by rw [hstart, ite_self]
  have harrive (r : Request) : s.arrives r = s := if_pos hs
  cases i with
  | powerUp pins low => exact absurd rfl (hpower pins low)
  | resetNLow clocks => exact absurd rfl (hlow clocks)
  | resetNRelease pins => exact absurd rfl (hrelease pins)
  | outputFrameStart => exact congrArg _ hstart
  | switchActivation => exact congrArg _ (hif _)
  | resumeActivation => exact congrArg _ (hif _)
  | supervisionExpiry => exact congrArg _ (hif _)
  | holdoverExpiry => exact congrArg _ (hif _)
  | renotify => exact congrArg _ (hif _)
  | copyStep => exact congrArg _ (if_pos hs)
  | patternFound => exact congrArg _ (if_pos hs)
  | verifyBoundary => exact congrArg _ (if_pos hs)
  | lockedBoundary => exact congrArg _ (if_pos hs)
  | signalLoss => exact congrArg _ (if_pos hs)
  | signalReturn => exact congrArg _ (if_pos hs)
  | frameDelivery => exact congrArg _ (if_pos hs)
  | heldResponsePlaced => exact congrArg _ (if_pos hs)
  | noticeOffer => exact congrArg _ (if_pos hs)
  | _ => exact congrArg _ (harrive _)

end Sys2Proof.Machine

open Sys2Proof Sys2Proof.Machine

/-- Settles O20: the checks of R14 keep writes off the live bank, the pending operation's fitness keeps copies off it. -/
theorem liveBankIsNotChanged : Obligations.LiveBankIsNotChanged := by
  refine ⟨fun s r => State.effect_liveEntries (State.effect_execute s r), fun s hs => ⟨_, rfl, ?copy⟩⟩
  case copy =>
    split
    · rfl
    · exact State.copyEngineStep_entries fun seq src dst n hop => ((State.operationSound_copy hop).mp hs).2.1

/-- Settles O40: `State.FrozenAs` is kept by every move but power-up. -/
theorem frozenFallbackBankIsKept : Obligations.FrozenFallbackBankIsKept := by
  intro i s hfrozen hop hi
  obtain ⟨t, ht, hm⟩ := exec_move i s
  have hkept : t.FrozenAs (s.bank .f) := State.FrozenAs.move ⟨rfl, hfrozen, ⟨hop⟩⟩ hm hi
  exact ⟨t, ht, hkept.bank, hkept.frozen⟩

/-- Settles O4: the operand decides between a pulse and a reset, and RESET_N held low stops every other command. -/
theorem resetLowHoldsThePart : Obligations.ResetLowHoldsThePart := by
  refine ⟨fun clocks s => ⟨fun h => ?pulse, fun h => ⟨_, rfl, ?held, ?released⟩⟩, fun i s => exec_of_held⟩
  case pulse => exact congrArg _ (if_pos h)
  case held => exact if_neg (Nat.ne_of_gt h)
  case released =>
    rw [if_neg (Nat.ne_of_gt h)]
    rfl

end

section
/-!
The frame timing unit through its operations (R116 to R129): the evaluation of the selection, the change of source, the
hand-over, and the counts that qualify a trunk.
-/

namespace Sys2Proof.Machine

open State

theorem satInc_le {max n : Nat} (h : n ≤ max) : satInc max n ≤ max := by
  unfold satInc
  split <;> omega

namespace Timing

variable {tm : Timing} {t u : Trunk}

/-! ### Qualification and selection (R120, R123) -/

theorem selection_eq_find? (tm : Timing) : tm.selection = tm.refList.find? tm.qualified := rfl

/-- The trunk selected is on the list and qualified. -/
theorem qualified_of_selection (h : tm.selection = some u) : u ∈ tm.refList ∧ tm.qualified u = true :=
  ⟨List.mem_of_find?_eq_some h, List.find?_some h⟩

/-- Counts that qualify the same trunks of the list select the same. -/
theorem selection_withDelivered {dl : Table 4 Nat}
    (h : ∀ x ∈ tm.refList, (dl.get x == 64) = tm.qualified x) :
    ({ tm with delivered := dl } : Timing).selection = tm.selection :=
  List.find?_congr fun x hx => h x hx

/-- A trunk that stops to be qualified changes the selection only where it was the one selected. -/
theorem selection_resetDelivered (h : tm.selection ≠ some t) : (tm.resetDelivered t).selection = tm.selection := by
  have hget (x : Trunk) : (tm.resetDelivered t).qualified x = (tm.qualified x && x != t) := by
    unfold qualified resetDelivered
    rw [Table.get_set]
    by_cases hx : x = t <;> simp [hx]
  have hcongr : (tm.resetDelivered t).selection = tm.refList.find? fun x => tm.qualified x && x != t :=
    List.find?_congr fun x _ => hget x
  rw [hcongr]
  rw [selection_eq_find?] at h ⊢
  cases hsel : tm.refList.find? tm.qualified with
  | none =>
    rw [List.find?_eq_none] at hsel ⊢
    exact fun x hx => by simp [hsel x hx]
  | some u =>
    have hne : u ≠ t := fun heq => h (hsel.trans (congrArg some heq))
    rw [List.find?_eq_some_iff_append] at hsel ⊢
    obtain ⟨hq, older, rest, hlist, holder⟩ := hsel
    refine ⟨by simp [hq, hne], older, rest, hlist, fun x hx => ?_⟩
    have := holder x hx
    simp_all

theorem not_qualified_resetDelivered : (tm.resetDelivered t).qualified t = false := by
  unfold qualified resetDelivered
  rw [Table.get_set_self]
  rfl

/-! ### The evaluation (R124) -/

/-- What an evaluation asks of the unit it finds: the selection may differ from the state, and a source that the unit has
lost may be missing under the tracked trunk. -/
structure Evaluable (tm : Timing) : Prop where
  listDistinct : tm.refList.Nodup
  follows :
    match tm.state with
    | .tracking t => tm.selection = some t →
        (tm.handOver = none ∧ tm.source = .trunk t)
        ∨ (∃ soon, tm.handOver = some ⟨t, soon⟩) ∧ tm.source ≠ .trunk t
    | .freeRun => tm.handOver = none ∧ tm.source = .timer
    | .holdover _ c => tm.handOver = none ∧ tm.source = .timer ∧ 1 ≤ c ∧ c ≤ 8192
  sourceQualified : ∀ t, tm.source = .trunk t → tm.qualified t = true
  owedByTrunk : tm.owed ≠ none → tm.source ≠ .timer ∧ tm.stopped = false
  startPast : tm.lastStart ≤ tm.now

/-- The timer becomes the source, with no hand-over and no start owed (R126). -/
theorem timerStandsIn_eq (h : tm.source = .timer → tm.owed = none) :
    tm.timerStandsIn = { tm with source := .timer, handOver := none, owed := none } := by
  cases hsource : tm.source with
  | timer => simp [timerStandsIn, hsource, h hsource]
  | trunk t => simp [timerStandsIn, hsource]

theorem Evaluable.owed_of_timer (h : tm.Evaluable) (hsource : tm.source = .timer) : tm.owed = none := by
  by_contra howed
  exact (h.owedByTrunk howed).1 hsource

/-- Standing in, with a state that the selection allows. -/
theorem Evaluable.sound_timerStandsIn (h : tm.Evaluable) {st : TimerState}
    (hst : match st with
      | .tracking _ => False
      | .freeRun => tm.selection = none
      | .holdover _ c => tm.selection = none ∧ tm.refList ≠ [] ∧ 1 ≤ c ∧ c ≤ 8192) :
    ({ tm.timerStandsIn with state := st } : Timing).Sound := by
  rw [timerStandsIn_eq h.owed_of_timer]
  refine ⟨h.listDistinct, ?_, ?_, nofun, fun howed => absurd rfl howed, h.startPast⟩
  · cases st with
    | tracking _ => exact hst.elim
    | freeRun => exact hst
    | holdover _ c => exact hst
  · cases st with
    | tracking _ => exact hst.elim
    | freeRun => exact ⟨rfl, rfl⟩
    | holdover _ c => exact ⟨rfl, rfl⟩

/-- TRACKING begins on the trunk selected (R127). -/
theorem Evaluable.sound_track (h : tm.Evaluable) (hsel : tm.selection = some u) : (tm.track u).Sound := by
  cases hstop : tm.stopped with
  | true =>
    have htrack : tm.track u =
        { tm with state := .tracking u, source := .timer, owed := none, handOver := some ⟨u, false⟩ } := by
      simp [track, hstop]
    rw [htrack]
    exact ⟨h.listDistinct, hsel, .inr ⟨⟨false, rfl⟩, nofun⟩, nofun, fun howed => absurd rfl howed, h.startPast⟩
  | false =>
    have htrack : tm.track u =
        { tm with state := .tracking u, handOver := if tm.source = .trunk u then none else some ⟨u, false⟩ } := by
      simp [track, hstop]
    rw [htrack]
    refine ⟨h.listDistinct, hsel, ?_, h.sourceQualified, fun howed => ⟨(h.owedByTrunk howed).1, ?_⟩, h.startPast⟩
    · by_cases hsource : tm.source = .trunk u
      · exact .inl ⟨if_pos hsource, hsource⟩
      · exact .inr ⟨⟨false, if_neg hsource⟩, hsource⟩
    · by_cases hsource : tm.source = .trunk u <;> simp [stopped, hsource]

theorem Evaluable.sound_evaluate (h : tm.Evaluable) : tm.evaluate.Sound := by
  have hfollows := h.follows
  unfold evaluate
  split
  next hlist => exact h.sound_timerStandsIn (st := .freeRun) (by rw [selection_eq_find?, hlist]; rfl)
  next hlist =>
    split
    next u t hsel hst =>
      split
      next heq =>
        rw [hst] at hfollows
        have hsel' : tm.selection = some t := heq ▸ hsel
        refine ⟨h.listDistinct, ?_, ?_, h.sourceQualified, h.owedByTrunk, h.startPast⟩
        · rw [hst]
          exact hsel'
        · rw [hst]
          exact hfollows hsel'
      next => exact h.sound_track hsel
    next u _ hsel _ => exact h.sound_track hsel
    next t hsel hst =>
      exact h.sound_timerStandsIn (st := .holdover t 8192) ⟨hsel, hlist, by decide, le_rfl⟩
    next hsel hst =>
      refine ⟨h.listDistinct, ?_, ?_, h.sourceQualified, h.owedByTrunk, h.startPast⟩
      · cases hstate : tm.state with
        | freeRun => exact hsel
        | tracking t => exact absurd hstate (hst t)
        | holdover t c =>
          rw [hstate] at hfollows
          exact ⟨hsel, hlist, hfollows.2.2⟩
      · cases hstate : tm.state with
        | freeRun =>
          rw [hstate] at hfollows
          exact hfollows
        | tracking t => exact absurd hstate (hst t)
        | holdover t c =>
          rw [hstate] at hfollows
          exact ⟨hfollows.1, hfollows.2.1⟩

/-! ### What an evaluation leaves -/

theorem evaluate_frame (tm : Timing) :
    tm.evaluate.refList = tm.refList ∧ tm.evaluate.delivered = tm.delivered ∧ tm.evaluate.counter = tm.counter
    ∧ tm.evaluate.now = tm.now ∧ tm.evaluate.lastStart = tm.lastStart := by
  have hstands : tm.timerStandsIn.refList = tm.refList ∧ tm.timerStandsIn.delivered = tm.delivered
      ∧ tm.timerStandsIn.counter = tm.counter ∧ tm.timerStandsIn.now = tm.now
      ∧ tm.timerStandsIn.lastStart = tm.lastStart := by
    unfold timerStandsIn
    split <;> exact ⟨rfl, rfl, rfl, rfl, rfl⟩
  unfold evaluate
  split
  · exact hstands
  · split
    · split <;> exact ⟨rfl, rfl, rfl, rfl, rfl⟩
    · exact ⟨rfl, rfl, rfl, rfl, rfl⟩
    · exact hstands
    · exact ⟨rfl, rfl, rfl, rfl, rfl⟩

/-! ### The operations of a sound unit -/

namespace Sound

/-- What a sound unit offers an evaluation, whatever list and counts it is given. -/
theorem evaluable (h : tm.Sound) {l : List Trunk} {dl : Table 4 Nat} (hl : l.Nodup)
    (hsource : ∀ x, tm.source = .trunk x → (dl.get x == 64) = true) :
    ({ tm with refList := l, delivered := dl } : Timing).Evaluable := by
  have hfollows := h.sourceFollows
  have hselected := h.selected
  refine ⟨hl, ?_, hsource, h.owedByTrunk, h.startPast⟩
  cases hst : tm.state with
  | tracking t =>
    rw [hst] at hfollows
    exact fun _ => hfollows
  | freeRun =>
    rw [hst] at hfollows
    exact hfollows
  | holdover t c =>
    rw [hst] at hfollows hselected
    exact ⟨hfollows.1, hfollows.2, hselected.2.2⟩

/-- Counts that qualify the same trunks of the list, and the source, keep the unit sound. -/
theorem withDelivered (h : tm.Sound) {dl : Table 4 Nat}
    (hlist : ∀ x ∈ tm.refList, (dl.get x == 64) = tm.qualified x)
    (hsource : ∀ x, tm.source = .trunk x → (dl.get x == 64) = true) :
    ({ tm with delivered := dl } : Timing).Sound := by
  have hselected := h.selected
  have hsel := selection_withDelivered hlist
  refine ⟨h.listDistinct, ?_, h.sourceFollows, hsource, h.owedByTrunk, h.startPast⟩
  cases hst : tm.state with
  | tracking t =>
    rw [hst] at hselected
    exact hsel.trans hselected
  | freeRun =>
    rw [hst] at hselected
    exact hsel.trans hselected
  | holdover t c =>
    rw [hst] at hselected
    exact ⟨hsel.trans hselected.1, hselected.2⟩

end Sound

/-- The unit after a trunk has left LOCKED and before an evaluation: the count is 0, and a trunk that is the source gives
way to the timer (R120, R126). -/
def givesUp (tm : Timing) (t : Trunk) : Timing :=
  if tm.source = .trunk t then { tm.resetDelivered t with source := .timer, owed := none } else tm.resetDelivered t

theorem givesUp_of_source (h : tm.source = .trunk t) :
    tm.givesUp t = { tm.resetDelivered t with source := .timer, owed := none } :=
  if_pos h

theorem givesUp_of_not_source (h : tm.source ≠ .trunk t) : tm.givesUp t = tm.resetDelivered t := if_neg h

theorem givesUp_frame (tm : Timing) (t : Trunk) :
    (tm.givesUp t).refList = tm.refList ∧ (tm.givesUp t).delivered = tm.delivered.set t 0
    ∧ (tm.givesUp t).state = tm.state ∧ (tm.givesUp t).counter = tm.counter := by
  unfold givesUp
  split <;> exact ⟨rfl, rfl, rfl, rfl⟩

namespace Sound

theorem qualified_reset (h : tm.Sound) {x : Trunk} (hsource : tm.source = .trunk x) (hx : x ≠ t) :
    ((tm.delivered.set t 0).get x == 64) = true := by
  rw [Table.get_set_ne _ _ hx]
  exact h.sourceQualified x hsource

/-- The trunk lost is the one tracked: the selection, which it no longer is, is to be evaluated. -/
theorem evaluable_givesUp (h : tm.Sound) (hst : tm.state = .tracking t) : (tm.givesUp t).Evaluable := by
  have hnot : (tm.resetDelivered t).selection ≠ some t := fun hsel =>
    absurd (qualified_of_selection hsel).2 (by simp [not_qualified_resetDelivered])
  by_cases hsource : tm.source = .trunk t
  · rw [givesUp_of_source hsource]
    refine ⟨h.listDistinct, ?_, nofun, fun howed => absurd rfl howed, h.startPast⟩
    rw [show ({ tm.resetDelivered t with source := .timer, owed := none } : Timing).state = .tracking t from hst]
    exact fun hsel => absurd hsel hnot
  · rw [givesUp_of_not_source hsource]
    refine ⟨h.listDistinct, ?_, fun x hx => ?_, h.owedByTrunk, h.startPast⟩
    · rw [show (tm.resetDelivered t).state = .tracking t from hst]
      exact fun hsel => absurd hsel hnot
    · exact h.qualified_reset hx fun heq => hsource (heq ▸ hx)

theorem sound_givesUp (h : tm.Sound) (hst : tm.state ≠ .tracking t) : (tm.givesUp t).Sound := by
  have hselected := h.selected
  have hfollows := h.sourceFollows
  have hnot : tm.selection ≠ some t := by
    cases hstate : tm.state with
    | tracking u =>
      rw [hstate] at hselected
      intro heq
      cases hselected.symm.trans heq
      exact hst hstate
    | freeRun =>
      rw [hstate] at hselected
      exact fun heq => nomatch hselected.symm.trans heq
    | holdover u c =>
      rw [hstate] at hselected
      exact fun heq => nomatch hselected.1.symm.trans heq
  have hsel := selection_resetDelivered hnot
  have hkeeps : match tm.state with
      | .tracking u => (tm.resetDelivered t).selection = some u
      | .freeRun => (tm.resetDelivered t).selection = none
      | .holdover _ c => (tm.resetDelivered t).selection = none ∧ tm.refList ≠ [] ∧ 1 ≤ c ∧ c ≤ 8192 := by
    rw [hsel]
    exact hselected
  by_cases hsource : tm.source = .trunk t
  · rw [givesUp_of_source hsource]
    refine ⟨h.listDistinct, hkeeps, ?_, nofun, fun howed => absurd rfl howed, h.startPast⟩
    show match tm.state with
      | .tracking u => (tm.handOver = none ∧ Source.timer = .trunk u)
          ∨ (∃ soon, tm.handOver = some ⟨u, soon⟩) ∧ Source.timer ≠ .trunk u
      | _ => tm.handOver = none ∧ Source.timer = .timer
    cases hstate : tm.state with
    | tracking u =>
      rw [hstate] at hfollows
      rcases hfollows with ⟨-, hsame⟩ | ⟨hhand, -⟩
      · cases hsource.symm.trans hsame
        exact absurd hstate hst
      · exact .inr ⟨hhand, nofun⟩
    | freeRun =>
      rw [hstate] at hfollows
      exact ⟨hfollows.1, rfl⟩
    | holdover u c =>
      rw [hstate] at hfollows
      exact ⟨hfollows.1, rfl⟩
  · rw [givesUp_of_not_source hsource]
    exact ⟨h.listDistinct, hkeeps, hfollows, fun x hx => h.qualified_reset hx fun heq => hsource (heq ▸ hx),
      h.owedByTrunk, h.startPast⟩

/-- Time passes. -/
theorem passTime (h : tm.Sound) (elapsed : Nat) : ({ tm with now := tm.now + elapsed } : Timing).Sound :=
  ⟨h.listDistinct, h.selected, h.sourceFollows, h.sourceQualified, h.owedByTrunk, h.startPast.trans (Nat.le_add_right ..)⟩

/-- A start is numbered (R117 to R119). -/
theorem advance (h : tm.Sound) (p : Config.Profile) : (tm.advance p).Sound :=
  ⟨h.listDistinct, h.selected, h.sourceFollows, h.sourceQualified, fun howed => absurd rfl howed, le_rfl⟩

theorem holdoverTick (h : tm.Sound) : tm.holdoverTick.Sound := by
  have hselected := h.selected
  have hfollows := h.sourceFollows
  unfold Timing.holdoverTick
  split
  next t c hst =>
    rw [hst] at hselected hfollows
    obtain ⟨hsel, hlist, -, hle⟩ := hselected
    refine ⟨h.listDistinct, ?_, ?_, h.sourceQualified, h.owedByTrunk, h.startPast⟩
    · dsimp only
      split
      next u heq => split at heq <;> cases heq
      next => exact hsel
      next u c' heq =>
        split at heq
        · cases heq
        · cases heq
          exact ⟨hsel, hlist, by omega, by omega⟩
    · dsimp only
      split
      next u heq => split at heq <;> cases heq
      next => exact hfollows
  next => exact h

/-- The trunk of a hand-over is tracked, and so the one selected. -/
theorem tracking_of_handOver (h : tm.Sound) {x : HandOver} (hx : tm.handOver = some x) :
    tm.state = .tracking x.trunk ∧ tm.source ≠ .trunk x.trunk := by
  have hfollows := h.sourceFollows
  cases hst : tm.state with
  | tracking t =>
    rw [hst] at hfollows
    rcases hfollows with ⟨hnone, -⟩ | ⟨⟨soon, hsoon⟩, hsource⟩
    · exact nomatch hnone.symm.trans hx
    · cases hsoon.symm.trans hx
      exact ⟨rfl, hsource⟩
  | freeRun =>
    rw [hst] at hfollows
    exact nomatch hfollows.1.symm.trans hx
  | holdover t c =>
    rw [hst] at hfollows
    exact nomatch hfollows.1.symm.trans hx

/-- The trunk handed over to becomes the source (R127). -/
theorem handOverTo (h : tm.Sound) {x : HandOver} (hx : tm.handOver = some x) (p : Config.Profile) :
    (tm.handOverTo x.trunk p).Sound := by
  obtain ⟨hst, -⟩ := h.tracking_of_handOver hx
  have hselected := h.selected
  rw [hst] at hselected
  refine ⟨h.listDistinct, h.selected, ?_, fun u hu => ?_, fun _ => ⟨nofun, rfl⟩, h.startPast⟩
  · rw [show (tm.handOverTo x.trunk p).state = .tracking x.trunk from hst]
    exact .inl ⟨rfl, rfl⟩
  · cases hu
    exact (qualified_of_selection hselected).2

theorem oweStart (h : tm.Sound) (t : Trunk) (p : Config.Profile) : (tm.oweStart t p).Sound := by
  unfold Timing.oweStart
  split
  next hsource =>
    refine ⟨h.listDistinct, h.selected, h.sourceFollows, h.sourceQualified, fun _ => ⟨?_, hsource.2⟩, h.startPast⟩
    show tm.source ≠ .timer
    rw [hsource.1]
    exact nofun
  next => exact h

/-- A delivery as the hand-over and the source take it (R119, R127). -/
theorem takeDelivery (h : tm.Sound) (t : Trunk) (p : Config.Profile) : (tm.takeDelivery t p).Sound := by
  unfold Timing.takeDelivery
  split
  next x hx =>
    split
    next heq =>
      subst heq
      split
      · exact h.handOverTo hx p
      · split
        · exact h.handOverTo hx p
        · obtain ⟨hst, hsource⟩ := h.tracking_of_handOver hx
          refine ⟨h.listDistinct, h.selected, ?_, h.sourceQualified, fun howed => absurd rfl howed, h.startPast⟩
          dsimp only
          rw [hst]
          exact .inr ⟨⟨true, rfl⟩, hsource⟩
    next => exact h.oweStart t p
  next => exact h.oweStart t p

end Sound

theorem sound_initial (now : Nat) : (Timing.initial now).Sound :=
  ⟨List.nodup_nil, rfl, ⟨rfl, rfl⟩, nofun, fun howed => absurd rfl howed, le_rfl⟩

end Timing

end Sys2Proof.Machine

end

section
/-!
The four trunks through every command (R86, R99, R103 to R113, R116, R120): a receiver, its store and its delivered-frame
count keep fitting each other, and the timing unit stays sound. While a word of a delivery is taken, the store of its
trunk is one frame behind; `TrunksFit` therefore reads the stores through a function.
-/

namespace Sys2Proof.Machine

open State

/-! ### Counters, held bits, stores -/

namespace TrunkCounters

variable {c : TrunkCounters}

theorem sound_zero : zero.sound := ⟨Nat.zero_le _, Nat.zero_le _, Nat.zero_le _, Nat.zero_le _, Nat.zero_le _⟩

theorem sound_addCheckError (h : c.sound) : c.addCheckError.sound :=
  let ⟨hcheck, hrest⟩ := h
  ⟨satInc_le hcheck, hrest⟩

theorem sound_addLockLoss (h : c.sound) : c.addLockLoss.sound :=
  let ⟨hcheck, hloss, hrest⟩ := h
  ⟨hcheck, satInc_le hloss, hrest⟩

theorem sound_addSequenceGap (h : c.sound) : c.addSequenceGap.sound :=
  let ⟨hcheck, hloss, hgap, hslips⟩ := h
  ⟨hcheck, hloss, satInc_le hgap, hslips⟩

theorem sound_addDropSlip (h : c.sound) : c.addDropSlip.sound :=
  let ⟨hcheck, hloss, hgap, hdrop, hrepeat⟩ := h
  ⟨hcheck, hloss, hgap, satInc_le hdrop, hrepeat⟩

theorem sound_addRepeatSlip (h : c.sound) : c.addRepeatSlip.sound :=
  let ⟨hcheck, hloss, hgap, hdrop, hrepeat⟩ := h
  ⟨hcheck, hloss, hgap, hdrop, satInc_le hrepeat⟩

end TrunkCounters

namespace Receiver

/-- What every alignment state asks of a receiver: counters in range, and no more bits held than have been received (R89,
R99). -/
structure LineSound (r : Receiver) : Prop where
  counters : r.counters.sound
  heldFits : r.held.length ≤ heldLimit
  heldReceived : r.held.length ≤ r.received

theorem LineSound.withCounters {r : Receiver} (h : r.LineSound) {c : TrunkCounters} (hc : c.sound) :
    ({ r with counters := c } : Receiver).LineSound :=
  ⟨hc, h.heldFits, h.heldReceived⟩

theorem trim_take_fits {r : Receiver} (h : r.held.length ≤ r.received) (line : List Bool) :
    (r.take line).trim.held.length ≤ heldLimit ∧ (r.take line).trim.held.length ≤ (r.take line).trim.received := by
  simp only [trim, take, List.length_drop, List.length_append]
  omega

/-- A search moves the state of alignment and the first position to test only. -/
theorem search_frame (r : Receiver) :
    r.search.counters = r.counters ∧ r.search.held = r.held ∧ r.search.received = r.received
    ∧ r.search.lastFet = r.lastFet ∧ r.search.farInFallback = r.farInFallback
    ∧ r.search.signalPresent = r.signalPresent
    ∧ ((∃ pos, r.search.align = .verify pos 1) ∨ r.search.align = r.align) := by
  unfold search
  split
  next pos _ => exact ⟨rfl, rfl, rfl, rfl, rfl, rfl, .inl ⟨pos, rfl⟩⟩
  next => exact ⟨rfl, rfl, rfl, rfl, rfl, rfl, .inr rfl⟩

end Receiver

/-- A store after a delivery, but for the slip that it may count (R106, R107). -/
def Store.taken (v : Store) (fr : FrameRecord) : Store :=
  match v.phase with
  | .idle => v
  | .priming => ⟨if 2 ≤ v.queue.length + 1 then .running else .priming, v.queue ++ [fr], v.current⟩
  | .running => if v.queue.length < 3 then { v with queue := v.queue ++ [fr] }
      else { v with queue := v.queue.drop 1 ++ [fr] }

theorem Store.taken_idle (fr : FrameRecord) : Store.idle.taken fr = .idle := rfl

/-- A delivery and its count keep a locked trunk's store in step with the count (R104, R106, R107). -/
theorem Store.lockedSound_taken {v : Store} {d : Nat} (h : v.lockedSound d) (fr : FrameRecord) :
    (v.taken fr).lockedSound (satInc 64 d) := by
  obtain ⟨phase, queue, current⟩ := v
  obtain ⟨hqueue, hd, hphase⟩ := h
  have hle : satInc 64 d ≤ 64 := satInc_le hd
  cases phase with
  | idle => exact hphase.elim
  | priming =>
    obtain ⟨hlen, hone, hcurrent⟩ := hphase
    dsimp only at hlen hcurrent
    have hinc : satInc 64 d = d + 1 := if_pos (by omega)
    simp only [taken, lockedSound, hinc]
    have hnew : (queue ++ [fr]).length = d + 1 := by rw [List.length_append, hlen, List.length_singleton]
    refine ⟨by omega, by omega, ?_⟩
    by_cases hlast : 2 ≤ queue.length + 1
    · rw [if_pos hlast]
      exact ⟨by omega, fun _ => by omega⟩
    · rw [if_neg hlast]
      exact ⟨hnew, by omega, hcurrent⟩
  | running =>
    obtain ⟨htwo, hcurrent⟩ := hphase
    dsimp only at hcurrent hqueue
    have hinc : 2 ≤ satInc 64 d := by
      unfold satInc
      split <;> omega
    simp only [taken]
    split
    next hroom =>
      refine ⟨by simpa using hroom, hle, hinc, fun hnone => ?_⟩
      have := hcurrent hnone
      simp only [List.length_append, List.length_singleton]
      omega
    next hfull =>
      have hlen : (queue.drop 1 ++ [fr]).length = 3 := by
        simp only [List.length_append, List.length_drop, List.length_singleton]
        omega
      exact ⟨hlen.le, hle, hinc, fun _ => by rw [hlen]; decide⟩

/-- A designation keeps a locked trunk's store in step with the count (R108 to R110). -/
def Store.designated (v : Store) : Store :=
  match v.phase, v.queue with
  | .running, fr :: rest => ⟨.running, rest, some fr⟩
  | .running, [] => v
  | phase, queue => ⟨phase, queue, none⟩

theorem Store.designated_idle : Store.idle.designated = .idle := rfl

theorem State.designate_eq (s : State) (t : Trunk) : s.designate t = s.setStore t (s.store t).designated := by
  have hself : s.setStore t (s.store t) = s := by
    unfold State.setStore State.store
    rw [Table.set_get_self]
    rfl
  rcases hv : s.store t with ⟨phase, queue, current⟩
  simp only [designate, hv]
  cases phase with
  | idle => rfl
  | priming => rfl
  | running =>
    cases queue with
    | nil => exact (hv ▸ hself).symm
    | cons fr rest => rfl

theorem Store.lockedSound_designated {v : Store} {d : Nat} (h : v.lockedSound d) : v.designated.lockedSound d := by
  obtain ⟨phase, queue, current⟩ := v
  obtain ⟨hqueue, hd, hphase⟩ := h
  cases phase with
  | idle => exact hphase.elim
  | priming => exact ⟨hqueue, hd, hphase.1, hphase.2.1, rfl⟩
  | running =>
    cases queue with
    | nil => exact ⟨hqueue, hd, hphase⟩
    | cons fr rest => exact ⟨(Nat.le_succ _).trans hqueue, hd, hphase.1, nofun⟩

/-! ### One trunk -/

variable {r : Receiver} {v : Store} {d : Nat}

theorem trunkSound.lineSound (h : trunkSound r v d) : r.LineSound := ⟨h.1, h.2.1, h.2.2.1⟩

/-- A trunk in LOCKED. -/
theorem trunkSound_locked {c miss : Nat} {rem : Option (BitVec 4)} (hr : r.align = .locked c miss rem) :
    trunkSound r v d ↔ r.LineSound ∧ r.signalPresent = true ∧ miss ≤ 3 ∧ v.lockedSound d := by
  refine ⟨fun h => ⟨h.lineSound, ?_⟩, fun ⟨hline, h⟩ => ⟨hline.counters, hline.heldFits, hline.heldReceived, ?_⟩⟩
  · have hstate := h.2.2.2
    rwa [hr] at hstate
  · rw [hr]
    exact h

/-- A trunk that is not in LOCKED: its store is idle and nothing of a frame is remembered (R92, R105, R120). -/
theorem trunkSound_unlocked (hr : r.isLocked = false) :
    trunkSound r v d ↔ r.LineSound ∧ v = .idle ∧ d = 0 ∧ r.lastFet = false ∧ r.farInFallback = false
      ∧ (r.align ≠ .search → r.signalPresent = true)
      ∧ (∀ c n, r.align = .verify c n → 1 ≤ n ∧ n ≤ 2) := by
  refine ⟨fun h => ⟨h.lineSound, ?_⟩, fun ⟨hline, h⟩ => ⟨hline.counters, hline.heldFits, hline.heldReceived, ?_⟩⟩
  · have hstate := h.2.2.2
    cases halign : r.align with
    | disabled =>
      rw [halign] at hstate
      obtain ⟨hv, hd, hfet, hfar, hsignal⟩ := hstate
      exact ⟨hv, hd, hfet, hfar, fun _ => hsignal, nofun⟩
    | search =>
      rw [halign] at hstate
      obtain ⟨hv, hd, hfet, hfar⟩ := hstate
      exact ⟨hv, hd, hfet, hfar, fun hne => absurd rfl hne, nofun⟩
    | verify c n =>
      rw [halign] at hstate
      obtain ⟨hv, hd, hfet, hfar, hsignal, hn⟩ := hstate
      refine ⟨hv, hd, hfet, hfar, fun _ => hsignal, fun c' n' heq => ?_⟩
      cases heq
      exact hn
    | locked => simp [Receiver.isLocked, halign] at hr
  · obtain ⟨hv, hd, hfet, hfar, hsignal, hn⟩ := h
    cases halign : r.align with
    | disabled => exact ⟨hv, hd, hfet, hfar, hsignal (by simp [halign])⟩
    | search => exact ⟨hv, hd, hfet, hfar⟩
    | verify c n => exact ⟨hv, hd, hfet, hfar, hsignal (by simp [halign]), hn c n halign⟩
    | locked => simp [Receiver.isLocked, halign] at hr

theorem Receiver.exists_of_isLocked (h : r.isLocked = true) : ∃ c miss rem, r.align = .locked c miss rem := by
  unfold isLocked at h
  split at h
  next c miss rem heq => exact ⟨c, miss, rem, heq⟩
  next => exact nomatch h

theorem Receiver.isLocked_of_align {c miss : Nat} {rem : Option (BitVec 4)} (h : r.align = .locked c miss rem) :
    r.isLocked = true := by
  simp only [isLocked, h]

/-- Counters may change within their range. -/
theorem trunkSound.withCounters (h : trunkSound r v d) {c : TrunkCounters} (hc : c.sound) :
    trunkSound { r with counters := c } v d :=
  ⟨hc, h.2⟩

namespace Receiver

/-- The receiver with the frame's bits, its check judged (R94). -/
def checkedFrame (r : Receiver) (f : WireFrame) : Receiver :=
  if checkPasses f then r.takeFrame f
  else { r.takeFrame f with counters := (r.takeFrame f).counters.addCheckError }

theorem afterFrame_eq (r : Receiver) (c miss : Nat) (rem : Option (BitVec 4)) (f : WireFrame) :
    r.afterFrame c miss rem f =
      if trusts miss f then (r.checkedFrame f).afterTrusted c miss rem f
      else (r.checkedFrame f).afterUntrusted c miss rem :=
  rfl

theorem signalPresent_takeFrame (r : Receiver) (f : WireFrame) : (r.takeFrame f).signalPresent = r.signalPresent := rfl

theorem checkedFrame_sound (f : WireFrame) (h : r.LineSound) :
    (r.checkedFrame f).LineSound ∧ (r.checkedFrame f).signalPresent = r.signalPresent := by
  obtain ⟨hfits, hreceived⟩ := trim_take_fits h.heldReceived ((frameBits f).drop 12)
  have htaken : (r.takeFrame f).LineSound := ⟨h.counters, hfits, hreceived⟩
  unfold checkedFrame
  split
  · exact ⟨htaken, signalPresent_takeFrame r f⟩
  · exact ⟨htaken.withCounters (TrunkCounters.sound_addCheckError htaken.counters), signalPresent_takeFrame r f⟩

/-- A frame that completes leaves the receiver in LOCKED, its bits and counters in range (R93 to R98). -/
theorem afterFrame_sound (c miss : Nat) (rem : Option (BitVec 4)) (f : WireFrame) (h : r.LineSound) :
    (r.afterFrame c miss rem f).LineSound ∧ (r.afterFrame c miss rem f).signalPresent = r.signalPresent
    ∧ ∃ rem', (r.afterFrame c miss rem f).align = .locked c miss rem' := by
  obtain ⟨hline, hsignal⟩ := checkedFrame_sound f h
  rw [afterFrame_eq]
  generalize r.checkedFrame f = u at hline hsignal
  split
  · refine ⟨⟨?_, hline.heldFits, hline.heldReceived⟩, hsignal, _, rfl⟩
    simp only [afterTrusted]
    split
    · exact TrunkCounters.sound_addSequenceGap hline.counters
    · exact hline.counters
  · exact ⟨⟨hline.counters, hline.heldFits, hline.heldReceived⟩, hsignal, _, rfl⟩

end Receiver

end Sys2Proof.Machine

end

section
/-!
The whole part's trunks through every command.
-/

namespace Sys2Proof

theorem Table.set_set {n : Nat} {α : Type} (t : Table n α) (i : Fin n) (a b : α) : (t.set i a).set i b = t.set i b := by
  apply Table.ext_get
  intro j
  simp only [Table.get_set]
  split <;> rfl

end Sys2Proof

namespace Sys2Proof.Machine

open State

/-- Dropping the oldest bits held leaves every other item of a receiver. -/
@[simp] theorem Receiver.trim_frame (r : Receiver) :
    r.trim.align = r.align ∧ r.trim.lastFet = r.lastFet ∧ r.trim.farInFallback = r.farInFallback
    ∧ r.trim.signalPresent = r.signalPresent ∧ r.trim.counters = r.counters ∧ r.trim.received = r.received
    ∧ r.trim.testFrom = r.testFrom ∧ r.trim.isLocked = r.isLocked := by
  simp only [trim, isLocked, and_self]

namespace State

variable {s t : State}

/-! ### The timing unit's part -/

@[simp] theorem timing_retime (s : State) (tm : Timing) : (s.retime tm).timing = tm := by
  simp only [retime]
  split
  · simp
  · rfl

theorem noticesOnly_retime (s : State) (tm : Timing) : NoticesOnly (s.withTiming tm) (s.retime tm) := by
  simp only [retime]
  split
  · exact noticesOnly_raise _ _ _
  · exact .refl _

@[simp] theorem timing_evaluateReference (s : State) : s.evaluateReference.timing = s.timing.evaluate :=
  timing_retime s _

theorem noticesOnly_evaluateReference (s : State) :
    NoticesOnly (s.withTiming s.timing.evaluate) s.evaluateReference :=
  noticesOnly_retime s _

/-- The evaluation that follows the loss of the tracked trunk, or none (R123). -/
theorem timingLosesTrunk_eq (s : State) (k : Trunk) :
    s.timingLosesTrunk k =
      if s.timing.state = .tracking k then (s.withTiming (s.timing.givesUp k)).evaluateReference
      else s.withTiming (s.timing.givesUp k) :=
  rfl

/-- The timing unit as it stands after a trunk has left LOCKED. -/
theorem noticesOnly_timingLosesTrunk (s : State) (k : Trunk) :
    NoticesOnly (s.withTiming (s.timingLosesTrunk k).timing) (s.timingLosesTrunk k) := by
  rw [timingLosesTrunk_eq]
  split
  · rw [timing_evaluateReference]
    exact noticesOnly_evaluateReference (s.withTiming _)
  · exact .refl _

theorem sound_timingLosesTrunk (h : s.timing.Sound) (k : Trunk) :
    (s.timingLosesTrunk k).timing.Sound
    ∧ (s.timingLosesTrunk k).timing.delivered = s.timing.delivered.set k 0 := by
  obtain ⟨-, hdelivered, -, -⟩ := s.timing.givesUp_frame k
  rw [timingLosesTrunk_eq]
  split
  next hst =>
    obtain ⟨_, hkept, _⟩ := (s.timing.givesUp k).evaluate_frame
    simp only [timing_evaluateReference, fields_withTiming, hkept]
    exact ⟨(h.evaluable_givesUp hst).sound_evaluate, hdelivered⟩
  next hst =>
    exact ⟨h.sound_givesUp hst, hdelivered⟩

/-! ### The trunks, with the stores read through a function -/

/-- The four trunks and the timing unit fit each other, each store as `f` reads it. -/
structure TrunksFit (f : Trunk → Store → Store) (s : State) : Prop where
  trunks : ∀ k, trunkSound (s.receiver k) (f k (s.store k)) (s.timing.delivered.get k)
  managementEnabled : (s.receiver s.mgmtTrunk).align ≠ .disabled
  timing : s.timing.Sound

theorem trunksFit_iff : s.TrunksFit (fun _ v => v) ↔ s.TrunksSound :=
  ⟨fun h => ⟨h.trunks, h.managementEnabled, h.timing⟩, fun h => ⟨h.trunks, h.managementEnabled, h.timing⟩⟩

namespace TrunksFit

variable {f : Trunk → Store → Store}

theorem bankFree : BankFree (TrunksFit f) where
  channel _ _ h := ⟨h.trunks, h.managementEnabled, h.timing⟩
  events _ _ h := ⟨h.trunks, h.managementEnabled, h.timing⟩
  map _ _ h := ⟨h.trunks, h.managementEnabled, h.timing⟩
  exchange _ _ h := ⟨h.trunks, h.managementEnabled, h.timing⟩
  protection _ _ h := ⟨h.trunks, h.managementEnabled, h.timing⟩
  operation _ _ h := ⟨h.trunks, h.managementEnabled, h.timing⟩
  supervision _ _ h := ⟨h.trunks, h.managementEnabled, h.timing⟩

theorem withTiming (h : s.TrunksFit f) {tm : Timing} (hd : tm.delivered = s.timing.delivered) (htm : tm.Sound) :
    (s.withTiming tm).TrunksFit f where
  trunks k := by
    have := h.trunks k
    rwa [← hd] at this
  managementEnabled := h.managementEnabled
  timing := htm

theorem evaluateReference (h : s.TrunksFit f) : s.evaluateReference.TrunksFit f := by
  refine bankFree.noticesOnly (noticesOnly_evaluateReference s)
    (h.withTiming s.timing.evaluate_frame.2.1 ?_)
  exact (h.timing.evaluable h.timing.listDistinct h.timing.sourceQualified).sound_evaluate

theorem setReceiver (h : s.TrunksFit f) {k : Trunk} {r : Receiver}
    (hr : trunkSound r (f k (s.store k)) (s.timing.delivered.get k)) (hm : k = s.mgmtTrunk → r.align ≠ .disabled) :
    (s.setReceiver k r).TrunksFit f where
  trunks j := by
    rw [receiver_setReceiver]
    split
    next heq => exact heq ▸ hr
    next => exact h.trunks j
  managementEnabled := by
    show ((s.setReceiver k r).receiver s.mgmtTrunk).align ≠ .disabled
    rw [receiver_setReceiver]
    split
    next heq => exact hm heq.symm
    next => exact h.managementEnabled
  timing := h.timing

theorem countOn (h : s.TrunksFit f) (k : Trunk) {g : TrunkCounters → TrunkCounters} (hg : ∀ c, c.sound → (g c).sound) :
    (s.countOn k g).TrunksFit f := by
  refine h.setReceiver ((h.trunks k).withCounters (hg _ (h.trunks k).1)) fun hk => ?_
  subst hk
  exact h.managementEnabled

theorem enableTrunk (h : s.TrunksFit f) (k : Trunk) : (s.enableTrunk k).TrunksFit f := by
  simp only [State.enableTrunk]
  split
  next halign =>
    have hk := h.trunks k
    obtain ⟨hline, hv, hd, hfet, hfar, -, -⟩ := (trunkSound_unlocked (by simp [Receiver.isLocked, halign])).mp hk
    refine h.setReceiver ((trunkSound_unlocked rfl).mpr ⟨⟨hline.1, hline.2, hline.3⟩, hv, hd, hfet, hfar, ?_, nofun⟩)
      fun _ => nofun
    exact fun hne => absurd rfl hne
  next => exact h

theorem replaceReferences (h : s.TrunksFit f) {l : List Trunk} (hl : l.Nodup) : (s.replaceReferences l).TrunksFit f := by
  have heval := (h.timing.evaluable hl h.timing.sourceQualified).sound_evaluate
  refine bankFree.noticesOnly (noticesOnly_evaluateReference (s.withTiming { s.timing with refList := l })) ?_
  exact h.withTiming (Timing.evaluate_frame _).2.1 heval

/-! ### Leaving LOCKED (R92, R105, R120, R126) -/

/-- Trunk `k` has left LOCKED in its receiver, and its neighbours have not followed yet. -/
structure Left (f : Trunk → Store → Store) (k : Trunk) (s : State) : Prop where
  others : ∀ j, j ≠ k → trunkSound (s.receiver j) (f j (s.store j)) (s.timing.delivered.get j)
  left : trunkSound (s.receiver k) .idle 0
  managementEnabled : (s.receiver s.mgmtTrunk).align ≠ .disabled
  timing : s.timing.Sound

theorem left_channelFree (k : Trunk) : ChannelFree (Left f k) where
  channel _ _ h := ⟨h.others, h.left, h.managementEnabled, h.timing⟩
  events _ _ h := ⟨h.others, h.left, h.managementEnabled, h.timing⟩

theorem setReceiver_left (h : s.TrunksFit f) {k : Trunk} {r : Receiver} (hr : trunkSound r .idle 0)
    (hm : k = s.mgmtTrunk → r.align ≠ .disabled) : Left f k (s.setReceiver k r) where
  others j hj := by
    rw [receiver_setReceiver, if_neg hj]
    exact h.trunks j
  left := by rwa [receiver_setReceiver_self]
  managementEnabled := by
    show ((s.setReceiver k r).receiver s.mgmtTrunk).align ≠ .disabled
    rw [receiver_setReceiver]
    split
    next heq => exact hm heq.symm
    next => exact h.managementEnabled
  timing := h.timing

variable (hf : ∀ k, f k .idle = .idle)
include hf

theorem Left.neighboursLoseLock {k : Trunk} (h : Left f k s) : (s.neighboursLoseLock k).TrunksFit f := by
  obtain ⟨hsound, hdelivered⟩ := sound_timingLosesTrunk (s := s.idleStore k) h.timing k
  have hleft : ((s.idleStore k).timingLosesTrunk k).TrunksFit f := by
    refine bankFree.noticesOnly (noticesOnly_timingLosesTrunk (s.idleStore k) k)
      ⟨fun j => ?_, h.managementEnabled, hsound⟩
    show trunkSound (s.receiver j) (f j ((s.idleStore k).store j))
      (((s.idleStore k).timingLosesTrunk k).timing.delivered.get j)
    rw [hdelivered, idleStore, store_setStore, Table.get_set]
    split
    next heq =>
      subst heq
      rw [hf]
      exact h.left
    next hne => exact h.others j hne
  simp only [State.neighboursLoseLock]
  split
  · exact bankFree.assemblerLosesLock hleft
  · exact hleft

theorem disableTrunk (h : s.TrunksFit f) {k : Trunk} (hk : k ≠ s.mgmtTrunk) : (s.disableTrunk k).TrunksFit f := by
  have hline := (h.trunks k).lineSound
  have hdisabled {v : Store} {d : Nat} (hv : v = .idle) (hd : d = 0) : trunkSound (s.receiver k).disable v d :=
    (trunkSound_unlocked rfl).mpr ⟨⟨hline.1, hline.2, hline.3⟩, hv, hd, rfl, rfl, fun _ => rfl, nofun⟩
  simp only [State.disableTrunk]
  split
  next => exact (h.setReceiver_left (hdisabled rfl rfl) fun heq => absurd heq hk).neighboursLoseLock hf
  next hlocked =>
    obtain ⟨-, hv, hd, -⟩ := (trunkSound_unlocked (by simpa using hlocked)).mp (h.trunks k)
    exact h.setReceiver (hdisabled hv hd) fun heq => absurd heq hk

/-- No request brings a store, a receiver or a count out of step, also while a store is one frame behind. -/
theorem keptByRequests : KeptByRequests (TrunksFit f) :=
  bankFree.effect (fun _ k h => h.enableTrunk k) (fun _ _ hk h => h.disableTrunk hf hk)
    (fun _ k h => h.countOn k fun _ _ => TrunkCounters.sound_zero) (fun _ _ hl h => h.replaceReferences hl)

end TrunksFit

/-! ### The trunks in step -/

namespace TrunksSound

/-- The stores read as they are. -/
abbrev asRead : Trunk → Store → Store := fun _ v => v

theorem fit (h : s.TrunksSound) : s.TrunksFit asRead := trunksFit_iff.mpr h

theorem bankFree : BankFree State.TrunksSound where
  channel _ _ h := ⟨h.trunks, h.managementEnabled, h.timing⟩
  events _ _ h := ⟨h.trunks, h.managementEnabled, h.timing⟩
  map _ _ h := ⟨h.trunks, h.managementEnabled, h.timing⟩
  exchange _ _ h := ⟨h.trunks, h.managementEnabled, h.timing⟩
  protection _ _ h := ⟨h.trunks, h.managementEnabled, h.timing⟩
  operation _ _ h := ⟨h.trunks, h.managementEnabled, h.timing⟩
  supervision _ _ h := ⟨h.trunks, h.managementEnabled, h.timing⟩

theorem keptByRequests : KeptByRequests State.TrunksSound where
  toChannelFree := bankFree.toChannelFree
  effect s t h ht := trunksFit_iff.mp ((TrunksFit.keptByRequests fun _ => rfl).effect s t h.fit ht)

theorem withTiming (h : s.TrunksSound) {tm : Timing} (hd : tm.delivered = s.timing.delivered) (htm : tm.Sound) :
    (s.withTiming tm).TrunksSound :=
  trunksFit_iff.mp (h.fit.withTiming hd htm)

theorem setReceiver (h : s.TrunksSound) {k : Trunk} {r : Receiver}
    (hr : trunkSound r (s.store k) (s.timing.delivered.get k)) (hm : r.align ≠ .disabled) :
    (s.setReceiver k r).TrunksSound :=
  trunksFit_iff.mp (h.fit.setReceiver hr fun _ => hm)

theorem setStore (h : s.TrunksSound) {k : Trunk} {v : Store}
    (hv : trunkSound (s.receiver k) v (s.timing.delivered.get k)) : (s.setStore k v).TrunksSound where
  trunks j := by
    rw [store_setStore]
    split
    next heq => exact heq ▸ hv
    next => exact h.trunks j
  managementEnabled := h.managementEnabled
  timing := h.timing

theorem countOn (h : s.TrunksSound) (k : Trunk) {g : TrunkCounters → TrunkCounters}
    (hg : ∀ c, c.sound → (g c).sound) : (s.countOn k g).TrunksSound :=
  trunksFit_iff.mp (h.fit.countOn k hg)

/-! ### Output frame starts -/

theorem designate (h : s.TrunksSound) (k : Trunk) : (s.designate k).TrunksSound := by
  rw [designate_eq]
  refine h.setStore ?_
  have hk := h.trunks k
  cases hlocked : (s.receiver k).isLocked with
  | true =>
    obtain ⟨c, miss, rem, halign⟩ := Receiver.exists_of_isLocked hlocked
    obtain ⟨hline, hsignal, hmiss, hstore⟩ := (trunkSound_locked halign).mp hk
    exact (trunkSound_locked halign).mpr ⟨hline, hsignal, hmiss, Store.lockedSound_designated hstore⟩
  | false =>
    obtain ⟨hline, hv, hrest⟩ := (trunkSound_unlocked hlocked).mp hk
    exact (trunkSound_unlocked hlocked).mpr ⟨hline, by rw [hv, Store.designated_idle], hrest⟩

theorem holdoverStart (h : s.TrunksSound) : s.holdoverStart.TrunksSound := by
  refine bankFree.noticesOnly (noticesOnly_retime s _) (h.withTiming ?_ h.timing.holdoverTick)
  unfold Timing.holdoverTick
  split <;> rfl

theorem keptByStarts : KeptByStarts State.TrunksSound where
  toKeptByRequests := keptByRequests
  advance s h := h.withTiming rfl (h.timing.advance s.profile)
  supervise _ := bankFree.superviseStart
  activate _ := bankFree.activateDue
  holdover _ h := h.holdoverStart
  designate _ k h := h.designate k
  latch _ := bankFree.latchFrameBank
  select _ := bankFree.protection _ _
  settle _ word := bankFree.settleFrames word
  repeats _ k h := h.countOn k fun _ => TrunkCounters.sound_addRepeatSlip

/-! ### Alignment found and lost (R88 to R92) -/

/-- SEARCH or VERIFY on the bits taken, kept in their limits. -/
theorem trunkSound_searched {r : Receiver} {v : Store} {d : Nat} (h : trunkSound r v d) (hr : r.isLocked = false)
    (hsignal : r.signalPresent = true) (line : List Bool) {r' : Receiver} (hcounters : r'.counters = r.counters)
    (hheld : r'.held = (r.take line).held) (hreceived : r'.received = (r.take line).received)
    (hfet : r'.lastFet = r.lastFet) (hfar : r'.farInFallback = r.farInFallback)
    (hsignal' : r'.signalPresent = r.signalPresent)
    (halign : r'.align = .search ∨ ∃ c n, r'.align = .verify c n ∧ 1 ≤ n ∧ n ≤ 2) :
    trunkSound r'.trim v d := by
  obtain ⟨hline, hv, hd, hfet0, hfar0, -, -⟩ := (trunkSound_unlocked hr).mp h
  obtain ⟨hfits, hfitsReceived⟩ := Receiver.trim_take_fits hline.heldReceived line
  obtain ⟨htalign, htfet, htfar, htsignal, htcounters, htreceived, -, htlocked⟩ := r'.trim_frame
  have hlength : r'.trim.held.length = (r.take line).trim.held.length := by simp only [Receiver.trim, hheld]
  have hposition : r'.trim.received = (r.take line).trim.received := by
    obtain ⟨-, -, -, -, -, htaken, -, -⟩ := (r.take line).trim_frame
    rw [htreceived, hreceived, htaken]
  have hlocked : r'.trim.isLocked = false := by
    rw [htlocked, Receiver.isLocked]
    rcases halign with halign | ⟨c, n, halign, -⟩ <;> rw [halign]
  have hline' : r'.trim.LineSound :=
    ⟨by rw [htcounters, hcounters]; exact hline.counters, hlength.trans_le hfits,
      hlength.trans_le (hfitsReceived.trans_eq hposition.symm)⟩
  refine (trunkSound_unlocked hlocked).mpr ⟨hline', hv, hd, htfet.trans (hfet.trans hfet0),
    htfar.trans (hfar.trans hfar0), fun _ => htsignal.trans (hsignal'.trans hsignal), fun c n heq => ?_⟩
  rw [htalign] at heq
  rcases halign with halign | ⟨c', n', halign, hn⟩
  · exact nomatch halign.symm.trans heq
  · cases halign.symm.trans heq
    exact hn

theorem receiverSearches (h : s.TrunksSound) (k : Trunk) (line : List Bool) : (s.receiverSearches k line).TrunksSound := by
  simp only [State.receiverSearches]
  split
  next hsearch =>
    obtain ⟨halign, hsignal⟩ := hsearch
    obtain ⟨h1, h2, h3, h4, h5, h6, halign'⟩ := Receiver.search_frame ((s.receiver k).take line)
    have hnew : ((s.receiver k).take line).search.align = .search
        ∨ ∃ c n, ((s.receiver k).take line).search.align = .verify c n ∧ 1 ≤ n ∧ n ≤ 2 := by
      rcases halign' with ⟨pos, hpos⟩ | hsame
      · exact .inr ⟨pos, 1, hpos, by decide, by decide⟩
      · exact .inl (hsame.trans halign)
    refine h.setReceiver (trunkSound_searched (h.trunks k) (by simp [Receiver.isLocked, halign]) hsignal line h1 h2 h3 h4
      h5 h6 hnew) ?_
    rcases hnew with hnew | ⟨c, n, hnew, -⟩ <;> simp [Receiver.trim, hnew]
  next => exact h

/-- The entry to LOCKED: the store is primed and the count starts from 0 (R89, R104, R120). -/
theorem gainLock (h : s.TrunksSound) {k : Trunk} {r : Receiver} {c : Nat} (halign : r.align = .locked c 0 none)
    (hline : r.LineSound) (hsignal : r.signalPresent = true) (hd : s.timing.delivered.get k = 0) :
    (s.gainLock k r).TrunksSound := by
  refine bankFree.raise _ _ ?_
  have hset : s.timing.delivered.set k 0 = s.timing.delivered := by
    rw [← hd, Table.set_get_self]
  refine ⟨fun j => ?_, ?_, ?_⟩
  · show trunkSound ((s.setReceiver k r).receiver j) ((s.primeStore k).store j) ((s.timing.delivered.set k 0).get j)
    rw [hset, receiver_setReceiver, primeStore, store_setStore]
    split
    next heq =>
      subst heq
      exact (trunkSound_locked halign).mpr ⟨hline, hsignal, Nat.zero_le _, by
        rw [hd]
        exact ⟨Nat.zero_le _, Nat.zero_le _, rfl, Nat.zero_le _, rfl⟩⟩
    next => exact h.trunks j
  · show ((s.setReceiver k r).receiver s.mgmtTrunk).align ≠ .disabled
    rw [receiver_setReceiver]
    split
    · simp [halign]
    · exact h.managementEnabled
  · show (s.timing.resetDelivered k).Sound
    rw [Timing.resetDelivered, hset]
    exact h.timing

theorem receiverVerifies (h : s.TrunksSound) (k : Trunk) (line : List Bool) :
    (s.receiverVerifies k line).TrunksSound := by
  have hk := h.trunks k
  simp only [State.receiverVerifies]
  split
  next c n halign =>
    have hnot : (s.receiver k).isLocked = false := by simp [Receiver.isLocked, halign]
    obtain ⟨hline, hv, hd, hfet, hfar, hsignal, hn⟩ := (trunkSound_unlocked hnot).mp hk
    have hpresent : (s.receiver k).signalPresent = true := hsignal (by simp [halign])
    split
    · refine h.setReceiver (trunkSound_searched hk hnot hpresent line rfl rfl rfl rfl rfl rfl
        (.inr ⟨c, n, halign, hn c n halign⟩)) ?_
      simp [Receiver.trim, Receiver.take, halign]
    · split
      · split
        next hlt =>
          refine h.setReceiver (trunkSound_searched (r' := { (s.receiver k).take line with align := .verify c (n + 1) })
            hk hnot hpresent line rfl rfl rfl rfl rfl rfl (.inr ⟨c, n + 1, rfl, by omega, by omega⟩)) ?_
          exact nofun
        next =>
          obtain ⟨hfits, hreceived⟩ := Receiver.trim_take_fits hline.heldReceived line
          exact h.gainLock rfl ⟨hline.counters, hfits, hreceived⟩ hpresent hd
      · obtain ⟨h1, h2, h3, h4, h5, h6, halign'⟩ :=
          Receiver.search_frame (((s.receiver k).take line).toSearch (c + 1))
        have hnew : (((s.receiver k).take line).toSearch (c + 1)).search.align = .search
            ∨ ∃ c' n', (((s.receiver k).take line).toSearch (c + 1)).search.align = .verify c' n' ∧ 1 ≤ n' ∧ n' ≤ 2 := by
          rcases halign' with ⟨pos, hpos⟩ | hsame
          · exact .inr ⟨pos, 1, hpos, by decide, by decide⟩
          · exact .inl hsame
        refine h.setReceiver (trunkSound_searched hk hnot hpresent line h1 h2 h3 h4 h5 h6 hnew) ?_
        rcases hnew with hnew | ⟨c', n', hnew, -⟩ <;> simp [Receiver.trim, hnew]
  next => exact h

theorem loseLock (h : s.TrunksSound) {k : Trunk} {r : Receiver} (hline : r.LineSound) (halign : r.align = .search) :
    (s.loseLock k r).TrunksSound := by
  have hleft : TrunksFit.Left asRead k ((s.setReceiver k r.clearFarEnd).countOn k .addLockLoss) := by
    have hset : TrunksFit.Left asRead k (s.setReceiver k
        { r.clearFarEnd with counters := r.counters.addLockLoss }) := by
      refine h.fit.setReceiver_left ((trunkSound_unlocked ?_).mpr ⟨⟨TrunkCounters.sound_addLockLoss hline.counters,
        hline.heldFits, hline.heldReceived⟩, rfl, rfl, rfl, rfl, fun hne => absurd halign hne, fun c n heq => ?_⟩) ?_
      · simp [Receiver.isLocked, Receiver.clearFarEnd, halign]
      · exact nomatch halign.symm.trans heq
      · intro _
        simp [Receiver.clearFarEnd, halign]
    have heq : (s.setReceiver k r.clearFarEnd).countOn k .addLockLoss =
        s.setReceiver k { r.clearFarEnd with counters := r.counters.addLockLoss } := by
      simp only [State.countOn, receiver_setReceiver_self]
      simp only [State.setReceiver, fields_withReceivers, withReceivers_withReceivers, Table.set_set]
      rfl
    rw [heq]
    exact hset
  exact trunksFit_iff.mp (((TrunksFit.left_channelFree k).raise _ _ hleft).neighboursLoseLock fun _ => rfl)

end TrunksSound

end State

end Sys2Proof.Machine

end

section
/-!
Boundaries, signal loss and deliveries on a trunk, and the step (R90 to R98, R106, R107, R119, R120): the trunks through
every command.
-/

namespace Sys2Proof.Machine

open State

/-! ### Boundaries and signal -/

theorem Receiver.LineSound.trim_take {r : Receiver} (h : r.LineSound) (line : List Bool) : (r.take line).trim.LineSound := by
  obtain ⟨hfits, hreceived⟩ := Receiver.trim_take_fits h.heldReceived line
  obtain ⟨-, -, -, -, hcounters, -, -, -⟩ := (r.take line).trim_frame
  exact ⟨by rw [hcounters]; exact h.counters, hfits, hreceived⟩

theorem Receiver.LineSound.withAlign {r : Receiver} (h : r.LineSound) (a : Alignment) :
    ({ r with align := a } : Receiver).LineSound :=
  ⟨h.counters, h.heldFits, h.heldReceived⟩

theorem Receiver.LineSound.toSearch {r : Receiver} (h : r.LineSound) (pos : Nat) : (r.toSearch pos).LineSound :=
  ⟨h.counters, h.heldFits, h.heldReceived⟩

/-- A boundary examined in LOCKED without losing it. -/
theorem trunkSound_examined {r : Receiver} {v : Store} {d c miss : Nat} {rem : Option (BitVec 4)} (h : trunkSound r v d)
    (halign : r.align = .locked c miss rem) (line : List Bool) (c' : Nat) {miss' : Nat} (hmiss : miss' ≤ 3) :
    trunkSound { (r.take line).trim with align := .locked c' miss' rem } v d := by
  obtain ⟨hline, hsignal, -, hstore⟩ := (trunkSound_locked halign).mp h
  obtain ⟨-, -, -, htsignal, -, -, -, -⟩ := (r.take line).trim_frame
  exact (trunkSound_locked rfl).mpr ⟨(hline.trim_take line).withAlign _, htsignal.trans hsignal, hmiss, hstore⟩

/-! ### A delivery's store, one frame behind -/

/-- The unit with a delivery on trunk `k` counted, before an evaluation (R120). -/
def Timing.counted (tm : Timing) (k : Trunk) : Timing :=
  { tm with delivered := tm.delivered.set k (satInc 64 (tm.delivered.get k)) }

namespace State

variable {s : State}

theorem countDelivery_eq (s : State) (k : Trunk) :
    s.countDelivery k =
      if s.timing.delivered.get k = 63 ∧ k ∈ s.timing.refList then (s.withTiming (s.timing.counted k)).evaluateReference
      else s.withTiming (s.timing.counted k) :=
  rfl

/-- The stores as they stand once a delivery on `k` has reached its own. -/
def withFrame (k : Trunk) (fr : FrameRecord) (j : Trunk) (v : Store) : Store := if j = k then v.taken fr else v

theorem withFrame_idle (k : Trunk) (fr : FrameRecord) (j : Trunk) : withFrame k fr j .idle = .idle := by
  unfold withFrame
  split
  · exact Store.taken_idle fr
  · rfl

theorem takeDelivery_delivered (tm : Timing) (k : Trunk) (p : Config.Profile) :
    (tm.takeDelivery k p).delivered = tm.delivered := by
  have howe : (tm.oweStart k p).delivered = tm.delivered := by
    unfold Timing.oweStart
    split <;> rfl
  unfold Timing.takeDelivery
  split
  · split
    · split
      · rfl
      · split <;> rfl
    · exact howe
  · exact howe

/-- A delivery reaches its store, and may count a slip. -/
theorem storeDelivery_cases (s : State) (k : Trunk) (fr : FrameRecord) :
    s.storeDelivery k fr = s.setStore k ((s.store k).taken fr)
    ∨ s.storeDelivery k fr =
        ((s.setStore k ((s.store k).taken fr)).countOn k .addDropSlip).raise .slip (slipDetail false k) := by
  have hself : s.setStore k (s.store k) = s := by
    unfold State.setStore State.store
    rw [Table.set_get_self]
    rfl
  rcases hv : s.store k with ⟨phase, queue, current⟩
  simp only [storeDelivery, Store.taken, hv]
  cases phase with
  | idle => exact .inl (hv ▸ hself).symm
  | priming => exact .inl rfl
  | running =>
    dsimp only
    split
    · exact .inl rfl
    · exact .inr rfl

namespace TrunksFit

theorem countDelivery (h : s.TrunksSound) {k : Trunk} (hk : (s.receiver k).isLocked = true) (fr : FrameRecord) :
    (s.countDelivery k).TrunksFit (withFrame k fr) := by
  obtain ⟨c, miss, rem, halign⟩ := Receiver.exists_of_isLocked hk
  have htrunks (j : Trunk) :
      trunkSound (s.receiver j) (withFrame k fr j (s.store j)) ((s.timing.counted k).delivered.get j) := by
    unfold withFrame Timing.counted
    rw [Table.get_set]
    split
    next heq =>
      subst heq
      obtain ⟨hline, hsignal, hmiss, hstore⟩ := (trunkSound_locked halign).mp (h.trunks j)
      exact (trunkSound_locked halign).mpr ⟨hline, hsignal, hmiss, Store.lockedSound_taken hstore fr⟩
    next => exact h.trunks j
  have hsource (x : Trunk) (hx : s.timing.source = .trunk x) : (s.timing.counted k).qualified x = true := by
    have hfull := h.timing.sourceQualified x hx
    unfold Timing.qualified Timing.counted
    rw [Table.get_set]
    split
    next heq =>
      subst heq
      have hcount : s.timing.delivered.get x = 64 := by simpa [Timing.qualified] using hfull
      rw [hcount]
      rfl
    next => exact hfull
  rw [countDelivery_eq]
  split
  · refine bankFree.noticesOnly (noticesOnly_evaluateReference _) ⟨fun j => ?_, h.managementEnabled, ?_⟩
    · obtain ⟨-, hdelivered, -⟩ := (s.timing.counted k).evaluate_frame
      show trunkSound _ _ ((s.timing.counted k).evaluate.delivered.get j)
      rw [hdelivered]
      exact htrunks j
    · exact (h.timing.evaluable h.timing.listDistinct hsource).sound_evaluate
  next hnot =>
    refine ⟨htrunks, h.managementEnabled, h.timing.withDelivered (fun x hx => ?_) hsource⟩
    rw [Table.get_set, Timing.qualified]
    split
    next heq =>
      subst heq
      have hd : s.timing.delivered.get x ≠ 63 := fun hd => hnot ⟨hd, hx⟩
      unfold satInc
      split
      next hlt =>
        have h1 : s.timing.delivered.get x + 1 ≠ 64 := by omega
        have h2 : s.timing.delivered.get x ≠ 64 := by omega
        rw [beq_false_of_ne h1, beq_false_of_ne h2]
      next => rfl
    next => rfl

theorem followDelivery {f : Trunk → Store → Store} (h : s.TrunksFit f) (k : Trunk) : (s.followDelivery k).TrunksFit f :=
  h.withTiming (takeDelivery_delivered _ _ _) (h.timing.takeDelivery k s.profile)

theorem storeDelivery {k : Trunk} {fr : FrameRecord} (h : s.TrunksFit (withFrame k fr)) :
    (s.storeDelivery k fr).TrunksSound := by
  have htaken : (s.setStore k ((s.store k).taken fr)).TrunksSound := by
    refine ⟨fun j => ?_, h.managementEnabled, h.timing⟩
    have hj := h.trunks j
    unfold withFrame at hj
    rw [store_setStore]
    split
    next heq =>
      subst heq
      rwa [if_pos rfl] at hj
    next hne => rwa [if_neg hne] at hj
  rcases s.storeDelivery_cases k fr with heq | heq <;> rw [heq]
  · exact htaken
  · exact TrunksSound.bankFree.raise _ _ (htaken.countOn k fun _ => TrunkCounters.sound_addDropSlip)

end TrunksFit

namespace TrunksSound

theorem receiverAtBoundary (h : s.TrunksSound) (k : Trunk) (window : BitVec 12) :
    (s.receiverAtBoundary k window).TrunksSound := by
  simp only [State.receiverAtBoundary]
  split
  next c miss rem halign =>
    split
    · exact h.setReceiver (trunkSound_examined (h.trunks k) halign _ _ (Nat.zero_le 3)) nofun
    · split
      next hmiss => exact h.setReceiver (trunkSound_examined (h.trunks k) halign _ _ hmiss) nofun
      next =>
        exact h.loseLock (((h.trunks k).lineSound.trim_take (bitsOf window)).toSearch _) rfl
  next => exact h

theorem receiverSignalLoss (h : s.TrunksSound) (k : Trunk) : (s.receiverSignalLoss k).TrunksSound := by
  have hline := (h.trunks k).lineSound
  simp only [State.receiverSignalLoss]
  split
  · exact h
  · split
    next => exact h.loseLock ⟨hline.counters, hline.heldFits, hline.heldReceived⟩ rfl
    next hlocked =>
      obtain ⟨-, hv, hd, hfet, hfar, -⟩ := (trunkSound_unlocked (by simpa using hlocked)).mp (h.trunks k)
      refine h.setReceiver ((trunkSound_unlocked rfl).mpr
        ⟨⟨hline.counters, hline.heldFits, hline.heldReceived⟩, hv, hd, hfet, hfar, ?_, nofun⟩) nofun
      exact fun hne => absurd rfl hne

theorem receiverSignalReturn (h : s.TrunksSound) (k : Trunk) : (s.receiverSignalReturn k).TrunksSound := by
  simp only [State.receiverSignalReturn]
  split
  · exact h
  next hlost =>
    cases hlocked : (s.receiver k).isLocked with
    | true =>
      obtain ⟨c, miss, rem, halign⟩ := Receiver.exists_of_isLocked hlocked
      obtain ⟨-, hsignal, -⟩ := (trunkSound_locked halign).mp (h.trunks k)
      exact absurd hsignal hlost
    | false =>
      obtain ⟨hline, hv, hd, hfet, hfar, hsignal, hn⟩ := (trunkSound_unlocked hlocked).mp (h.trunks k)
      have halign : (s.receiver k).align = .search := by
        by_contra hne
        exact hlost (hsignal hne)
      have hreturned := (trunkSound_unlocked
        (r := { s.receiver k with signalPresent := true, testFrom := (s.receiver k).received }) hlocked).mpr
        ⟨⟨hline.counters, hline.heldFits, hline.heldReceived⟩, hv, hd, hfet, hfar, fun _ => rfl, hn⟩
      exact h.setReceiver hreturned (by simp [halign])

theorem deliverFrame (h : s.TrunksSound) (k : Trunk) (f : WireFrame) (elapsed : Nat) :
    (s.deliverFrame k f elapsed).TrunksSound := by
  simp only [State.deliverFrame]
  split
  next c miss rem halign =>
    obtain ⟨hline, hsignal, hmiss, hstore⟩ := (trunkSound_locked halign).mp (h.trunks k)
    obtain ⟨hline', hsignal', rem', halign'⟩ := Receiver.afterFrame_sound c miss rem f hline
    have hreceived : ((s.passTime elapsed).setReceiver k ((s.receiver k).afterFrame c miss rem f)).TrunksSound := by
      have hpassed : (s.passTime elapsed).TrunksSound :=
        h.withTiming (tm := { s.timing with now := s.timing.now + elapsed }) rfl (h.timing.passTime elapsed)
      refine hpassed.setReceiver
        ((trunkSound_locked halign').mpr ⟨hline', hsignal'.trans hsignal, hmiss, hstore⟩) ?_
      rw [halign']
      exact nofun
    have hcounted := TrunksFit.countDelivery
      (bankFree.raiseAll (deliveryEvents (s.receiver k) k miss f) hreceived)
      (k := k) (by
        rw [receiver_raiseAll, receiver_setReceiver_self]
        exact Receiver.isLocked_of_align halign')
      (frameRecord f (Receiver.trusts miss f))
    simp only [handOnFrame]
    refine (TrunksFit.followDelivery ?_ k).storeDelivery
    split
    · exact (TrunksFit.keptByRequests (withFrame_idle k _)).takeWord _ hcounted
    · exact hcounted
  next => exact h

/-! ### Commands -/

theorem powerUp (now : Nat) {u : State} (hreceivers : u.receivers = Table.fill 4 .initial)
    (hstores : u.stores = Table.fill 4 .idle) (htiming : u.timing = .initial now) : u.TrunksSound := by
  have hreceiver (j : Trunk) : u.receiver j = .initial := by
    unfold State.receiver
    rw [hreceivers, Table.get_fill]
  refine ⟨fun j => ?_, by rw [hreceiver]; exact nofun, htiming ▸ Timing.sound_initial now⟩
  have hstore : u.store j = .idle := by
    unfold State.store
    rw [hstores, Table.get_fill]
  have hcount : u.timing.delivered.get j = 0 := by
    rw [htiming]
    exact Table.get_fill 0 j
  rw [hreceiver, hstore, hcount]
  refine (trunkSound_unlocked rfl).mpr ⟨⟨TrunkCounters.sound_zero, Nat.zero_le _, Nat.le_refl _⟩, rfl, rfl, rfl, rfl, ?_,
    nofun⟩
  exact fun _ => rfl

theorem move {i : Instr} {t : State} (h : s.TrunksSound) (hm : Move s i t) : t.TrunksSound := by
  cases hm with
  | stays => exact h
  | poweredUp => exact powerUp 0 rfl rfl rfl
  | heldInReset => exact ⟨h.trunks, h.managementEnabled, h.timing⟩
  | released => exact powerUp s.timing.now rfl rfl rfl
  | started => exact keptByStarts.frameStart h
  | copied => exact bankFree.copyEngineStep h
  | searched k line => exact h.receiverSearches k line
  | verified k line => exact h.receiverVerifies k line
  | examined k window => exact h.receiverAtBoundary k window
  | signalLost k => exact h.receiverSignalLoss k
  | signalReturned k => exact h.receiverSignalReturn k
  | delivered k f elapsed => exact h.deliverFrame k f elapsed
  | roomHandedOut => exact keptByRequests.handOutRoom h
  | noticesOffered => exact bankFree.offerNotices h
  | received r => exact keptByRequests.receiveRequest _ h

end TrunksSound

end State

end Sys2Proof.Machine

open Sys2Proof Sys2Proof.Machine

/-- Settles O58: every command keeps every trunk's receiver, store and delivered-frame count in step (`TrunksSound.move`);
through the word of a delivery, the store is read as it stands once the frame has reached it. -/
theorem stepKeepsTrunksSound : Obligations.StepKeepsTrunksSound :=
  fun _ _ h hstep =>
    step_keeps (P := State.TrunksSound) (fun _ _ h => ⟨h.trunks, h.managementEnabled, h.timing⟩)
      (fun _ _ _ h hm => h.move hm) h hstep

end

section
/-!
The management channel through every command (R133, R137, R141, R144, R146 to R148). While the processor executes, and
while a message that the transmitter takes leaves room, the channel is not sound as a whole; `Channel.Fits` and
`Channel.Running` say what holds then.
-/

namespace Sys2Proof.Machine

open State

/-! ### The response cache (R144) -/

section Cache

variable {l : List CacheEntry} {e : CacheEntry}

theorem cached_of_same (h : ∃ x ∈ l, x.seq = e.seq) : cached l e = l.filter (fun x => x.seq != e.seq) ++ [e] :=
  if_pos (by simpa using h)

theorem cached_of_new (h : ∀ x ∈ l, x.seq ≠ e.seq) :
    cached l e = if 4 ≤ l.length then l.drop 1 ++ [e] else l ++ [e] :=
  if_neg (by simpa using h)

theorem nodup_seq_append (hl : (l.map CacheEntry.seq).Nodup) (h : ∀ x ∈ l, x.seq ≠ e.seq) :
    ((l ++ [e]).map CacheEntry.seq).Nodup := by
  rw [List.map_append, List.map_singleton, List.nodup_append]
  refine ⟨hl, List.nodup_singleton _, fun a ha b hb => ?_⟩
  obtain ⟨x, hx, rfl⟩ := List.mem_map.mp ha
  rw [List.mem_singleton.mp hb]
  exact h x hx

/-- Never more than four entries, never two with one sequence number. -/
theorem cached_fits (hlen : l.length ≤ 4) (hl : (l.map CacheEntry.seq).Nodup) :
    (cached l e).length ≤ 4 ∧ ((cached l e).map CacheEntry.seq).Nodup := by
  have hsub {m : List CacheEntry} (hm : m.Sublist l) : (m.map CacheEntry.seq).Nodup := hl.sublist (hm.map _)
  by_cases hsame : ∃ x ∈ l, x.seq = e.seq
  · rw [cached_of_same hsame]
    obtain ⟨x, hx, hseq⟩ := hsame
    refine ⟨?_, nodup_seq_append (hsub List.filter_sublist) fun y hy => ?_⟩
    · have hlt : (l.filter fun y => y.seq != e.seq).length < l.length :=
        List.length_filter_lt_length_iff_exists.mpr ⟨x, hx, by simp [hseq]⟩
      rw [List.length_append, List.length_singleton]
      omega
    · simpa using (List.mem_filter.mp hy).2
  · have hnew : ∀ x ∈ l, x.seq ≠ e.seq := fun x hx heq => hsame ⟨x, hx, heq⟩
    rw [cached_of_new hnew]
    split
    · refine ⟨?_, nodup_seq_append (hsub (List.drop_sublist 1 l)) fun y hy => hnew y (List.mem_of_mem_drop hy)⟩
      rw [List.length_append, List.length_drop, List.length_singleton]
      omega
    · refine ⟨?_, nodup_seq_append hl hnew⟩
      rw [List.length_append, List.length_singleton]
      omega

end Cache

/-! ### Capacities of the channel -/

namespace Channel

/-- The capacities of the channel, whether or not the processor and the held response have gone on. -/
structure Fits (c : Channel) : Prop where
  collected : ∀ words, c.assembler = .collect words → 1 ≤ words.length ∧ words.length ≤ 32
  counters :
    c.rx.badCheck ≤ 65535 ∧ c.rx.badLength ≤ 65535 ∧ c.rx.aborts ≤ 65535 ∧ c.rx.overlong ≤ 65535
      ∧ c.rx.badKind ≤ 65535
  queueFits : c.requests.length ≤ 4
  keysDistinct : (c.requests.map Request.key).Nodup
  heldApart : ∀ h, c.held = some h → h.key ∉ c.requests.map Request.key
  cacheFits : c.cache.length ≤ 4
  cacheDistinct : (c.cache.map CacheEntry.seq).Nodup
  transmitFits : c.txQueue.length ≤ 8
  noticesFit : noticesIn c.txQueue ≤ 4
  streakFits : c.streak ≤ 4
  sendingInside : ∀ it k attached, c.transmitter = .sending it k attached → 1 ≤ k ∧ k < it.message.words.length

/-- The channel while the processor may have a request to take: a held response waits for room. -/
structure Running (c : Channel) : Prop extends Fits c where
  waitsForRoom : c.held ≠ none → 8 ≤ c.txQueue.length

variable {c : Channel}

theorem sound_iff : c.Sound ↔ c.Running ∧ (c.held = none → c.requests = []) := by
  constructor
  · intro h
    exact ⟨⟨⟨h.collected, h.counters, h.queueFits, h.keysDistinct, h.heldApart, h.cacheFits, h.cacheDistinct,
      h.transmitFits, h.noticesFit, h.streakFits, h.sendingInside⟩, h.waitsForRoom⟩, h.idleTakes⟩
  · rintro ⟨h, hidle⟩
    exact ⟨h.collected, h.counters, h.queueFits, h.keysDistinct, h.heldApart, hidle, h.waitsForRoom, h.cacheFits,
      h.cacheDistinct, h.transmitFits, h.noticesFit, h.streakFits, h.sendingInside⟩

theorem Sound.running (h : c.Sound) : c.Running := (sound_iff.mp h).1

/-- A change that leaves the processor's items. -/
theorem Sound.of_running (h : c.Sound) {d : Channel} (hd : d.Running) (hheld : d.held = c.held)
    (hrequests : d.requests = c.requests) : d.Sound :=
  sound_iff.mpr ⟨hd, by rw [hheld, hrequests]; exact h.idleTakes⟩

/-- The transmit queue of `d` is that of `c` with items that have found room. -/
def Grown (c d : Channel) : Prop :=
  ∃ l, d = { c with txQueue := c.txQueue ++ l } ∧ (l = [] ∨ State.noticesFit (c.txQueue ++ l))

theorem Running.grown (h : c.Running) {d : Channel} (hd : c.Grown d) : d.Running := by
  obtain ⟨l, rfl, hl⟩ := hd
  have hfits : State.noticesFit (c.txQueue ++ l) := by
    rcases hl with rfl | hl
    · rw [List.append_nil]
      exact ⟨h.transmitFits, h.noticesFit⟩
    · exact hl
  refine ⟨⟨h.collected, h.counters, h.queueFits, h.keysDistinct, h.heldApart, h.cacheFits, h.cacheDistinct, hfits.1,
    hfits.2, h.streakFits, h.sendingInside⟩, fun hheld => ?_⟩
  exact (h.waitsForRoom hheld).trans (by simp)

theorem Sound.grown (h : c.Sound) {d : Channel} (hd : c.Grown d) : d.Sound := by
  have hrunning := h.running.grown hd
  obtain ⟨l, rfl, -⟩ := hd
  exact h.of_running hrunning rfl rfl

theorem noticesIn_append_response (q : List TxItem) (m : Message) : noticesIn (q ++ [.response m]) = noticesIn q := by
  simp [noticesIn, TxItem.isNotice]

/-- A response that finds room joins the transmit queue (R145, R146). -/
theorem Fits.withResponse (h : c.Fits) (hroom : roomForResponse c.txQueue = true) (m : Message) :
    ({ c with txQueue := c.txQueue ++ [.response m] } : Channel).Fits := by
  refine ⟨h.collected, h.counters, h.queueFits, h.keysDistinct, h.heldApart, h.cacheFits, h.cacheDistinct, ?_, ?_,
    h.streakFits, h.sendingInside⟩
  · have hlt : c.txQueue.length < 8 := by simpa [roomForResponse] using hroom
    simpa using hlt
  · rw [noticesIn_append_response]
    exact h.noticesFit

theorem Running.withResponse (h : c.Running) (hroom : roomForResponse c.txQueue = true) (m : Message) :
    ({ c with txQueue := c.txQueue ++ [.response m] } : Channel).Running :=
  ⟨h.toFits.withResponse hroom m, fun hheld => (h.waitsForRoom hheld).trans (by simp)⟩

/-- A response that finds none is held (R145). -/
theorem Running.hold (h : c.Running) (hfull : roomForResponse c.txQueue = false) {x : HeldResponse}
    (hx : x.key ∉ c.requests.map Request.key) : ({ c with held := some x } : Channel).Running := by
  refine ⟨⟨h.collected, h.counters, h.queueFits, h.keysDistinct, ?_, h.cacheFits, h.cacheDistinct, h.transmitFits,
    h.noticesFit, h.streakFits, h.sendingInside⟩, fun _ => by simpa [roomForResponse] using hfull⟩
  intro y hy
  cases hy
  exact hx

theorem Running.withCache (h : c.Running) (e : CacheEntry) :
    ({ c with cache := cached c.cache e } : Channel).Running := by
  obtain ⟨hlen, hdistinct⟩ := cached_fits (e := e) h.cacheFits h.cacheDistinct
  exact ⟨⟨h.collected, h.counters, h.queueFits, h.keysDistinct, h.heldApart, hlen, hdistinct, h.transmitFits,
    h.noticesFit, h.streakFits, h.sendingInside⟩, h.waitsForRoom⟩

theorem Running.withAssembler (h : c.Running) {a : Assembler}
    (ha : ∀ words, a = .collect words → 1 ≤ words.length ∧ words.length ≤ 32) :
    ({ c with assembler := a } : Channel).Running :=
  ⟨⟨ha, h.counters, h.queueFits, h.keysDistinct, h.heldApart, h.cacheFits, h.cacheDistinct, h.transmitFits, h.noticesFit,
    h.streakFits, h.sendingInside⟩, h.waitsForRoom⟩

theorem Running.withRx (h : c.Running) (cause : MgmtCause) : ({ c with rx := c.rx.add cause } : Channel).Running := by
  obtain ⟨hcheck, hlength, haborts, hoverlong, hkind⟩ := h.counters
  refine ⟨⟨h.collected, ?_, h.queueFits, h.keysDistinct, h.heldApart, h.cacheFits, h.cacheDistinct, h.transmitFits,
    h.noticesFit, h.streakFits, h.sendingInside⟩, h.waitsForRoom⟩
  cases cause with
  | length => exact ⟨hcheck, satInc_le hlength, haborts, hoverlong, hkind⟩
  | check => exact ⟨satInc_le hcheck, hlength, haborts, hoverlong, hkind⟩
  | kind => exact ⟨hcheck, hlength, haborts, hoverlong, satInc_le hkind⟩
  | abort => exact ⟨hcheck, hlength, satInc_le haborts, hoverlong, hkind⟩
  | overlong => exact ⟨hcheck, hlength, haborts, satInc_le hoverlong, hkind⟩

end Channel

/-! ### Occurrences and offerings -/

namespace State

variable {s : State}

theorem grown_offerNotices (s : State) : s.channel.Grown s.offerNotices.channel := by
  obtain ⟨es, -, -, -, -, hfits, hchannel, -⟩ := offered_offerNotices s
  refine ⟨_, hchannel, ?_⟩
  by_cases hes : es = []
  · exact .inl (by rw [hes]; rfl)
  · have := hfits hes
    rw [hchannel] at this
    exact .inr this

theorem grown_raise (s : State) (ev : Event) (d : Half) : s.channel.Grown (s.raise ev d).channel :=
  grown_offerNotices (s.withEvents _)

/-- The channel as a whole is sound. -/
abbrev ChannelSound (s : State) : Prop := s.channel.Sound

theorem channelSound_occurrences : KeptByOccurrences ChannelSound where
  raised s ev d h := Channel.Sound.grown h (grown_raise s ev d)

namespace ChannelSound

theorem withAssembler (h : s.ChannelSound) {a : Assembler}
    (ha : ∀ words, a = .collect words → 1 ≤ words.length ∧ words.length ≤ 32) : (s.withAssembler a).ChannelSound :=
  Channel.Sound.of_running h (Channel.Running.withAssembler (Channel.Sound.running h) ha) rfl rfl

theorem mgmtError (h : s.ChannelSound) (cause : MgmtCause) : (s.mgmtError cause).ChannelSound :=
  channelSound_occurrences.raise (s := s.withChannel { s.channel with rx := s.channel.rx.add cause }) _ _
    (Channel.Sound.of_running h (Channel.Running.withRx (Channel.Sound.running h) cause) rfl rfl)

theorem assemblerLosesLock (h : s.ChannelSound) : s.assemblerLosesLock.ChannelSound := by
  unfold State.assemblerLosesLock
  split
  · exact h
  · exact (h.withAssembler (a := .gap) nofun).mgmtError _
  · exact h.withAssembler nofun

theorem carriesLines : CarriesLines ChannelSound where
  toKeptByOccurrences := channelSound_occurrences
  aborted _ h := h.assemblerLosesLock
  receivers _ _ h := h
  stores _ _ h := h
  timing _ _ h := h

theorem carriesBanks : CarriesBanks ChannelSound where
  toKeptByOccurrences := channelSound_occurrences
  map _ _ h := h
  exchange _ _ h := h
  protection _ _ h := h
  operation _ _ h := h
  supervision _ _ h := h

end ChannelSound

/-! ### Execution (R142 to R145) -/

/-- The processor executes a request, with `rest` waiting behind it, unless a RESTART has emptied the queue. -/
structure Executing (rest : List Request) (s : State) : Prop where
  running : s.channel.Running
  idle : s.channel.held = none
  queue : s.channel.requests = rest ∨ s.channel.requests = []

namespace Executing

variable {rest : List Request}

theorem grown (h : s.Executing rest) {t : State} (ht : s.channel.Grown t.channel) : t.Executing rest := by
  have hrunning := h.running.grown ht
  obtain ⟨l, heq, -⟩ := ht
  exact ⟨hrunning, by rw [heq]; exact h.idle, by rw [heq]; exact h.queue⟩

theorem occurrences : KeptByOccurrences (Executing rest) where
  raised s ev d h := h.grown (grown_raise s ev d)

theorem mgmtError (h : s.Executing rest) (cause : MgmtCause) : (s.mgmtError cause).Executing rest :=
  occurrences.raise (s := s.withChannel { s.channel with rx := s.channel.rx.add cause }) _ _
    ⟨h.running.withRx cause, h.idle, h.queue⟩

theorem assemblerLosesLock (h : s.Executing rest) : s.assemblerLosesLock.Executing rest := by
  have hgap : (s.withAssembler .gap).Executing rest := ⟨h.running.withAssembler nofun, h.idle, h.queue⟩
  unfold State.assemblerLosesLock
  split
  · exact h
  · exact hgap.mgmtError _
  · exact hgap

theorem carriesLines : CarriesLines (Executing rest) where
  toKeptByOccurrences := occurrences
  aborted _ h := h.assemblerLosesLock
  receivers _ _ h := ⟨h.running, h.idle, h.queue⟩
  stores _ _ h := ⟨h.running, h.idle, h.queue⟩
  timing _ _ h := ⟨h.running, h.idle, h.queue⟩

theorem carriesBanks : CarriesBanks (Executing rest) where
  toKeptByOccurrences := occurrences
  map _ _ h := ⟨h.running, h.idle, h.queue⟩
  exchange _ _ h := ⟨h.running, h.idle, h.queue⟩
  protection _ _ h := ⟨h.running, h.idle, h.queue⟩
  operation _ _ h := ⟨h.running, h.idle, h.queue⟩
  supervision _ _ h := ⟨h.running, h.idle, h.queue⟩

theorem withEvents (h : s.Executing rest) (e : EventUnit) : (s.withEvents e).Executing rest :=
  ⟨h.running, h.idle, h.queue⟩

/-- Withdrawn notices leave room, and a notice in transmission stays where it is. -/
theorem withdraw (h : s.Executing rest) (which : Fin 16 → Bool) : (s.withdraw which).Executing rest := by
  have hr := h.running
  refine ⟨⟨⟨hr.collected, hr.counters, hr.queueFits, hr.keysDistinct, hr.heldApart, hr.cacheFits, hr.cacheDistinct, ?_,
    ?_, hr.streakFits, fun it k attached hsending => ?_⟩, fun hheld => absurd h.idle hheld⟩, h.idle, h.queue⟩
  · exact (List.length_filter_le _ _).trans hr.transmitFits
  · exact ((List.filter_sublist.filter _).length_le).trans hr.noticesFit
  · simp only [State.withdraw, fields_withChannel] at hsending
    split at hsending
    next it' k' attached' hbefore =>
      cases hsending
      exact hr.sendingInside _ _ _ hbefore
    next => exact hr.sendingInside _ _ _ hsending

theorem acknowledge (h : s.Executing rest) (set : BitVec 16) : (s.acknowledge set).Executing rest :=
  ((h.withdraw _).withEvents _).grown (grown_offerNotices _)

theorem setMask (h : s.Executing rest) (mask : BitVec 16) (interval : Byte) :
    (s.setMask mask interval).Executing rest :=
  ((((h.withdraw _).withEvents _).grown (grown_offerNotices _)).withEvents _).grown (grown_offerNotices _)

theorem restarted (h : s.Executing rest) : s.restarted.Executing rest := by
  have hr := (h.withdraw fun _ => true).running
  refine ⟨⟨⟨nofun, ?_, Nat.zero_le _, List.nodup_nil, fun _ _ => List.not_mem_nil, Nat.zero_le _, List.nodup_nil,
    Nat.zero_le _, Nat.zero_le _, Nat.zero_le _, hr.sendingInside⟩, fun hheld => absurd h.idle hheld⟩, h.idle, .inr rfl⟩
  exact ⟨Nat.zero_le _, Nat.zero_le _, Nat.zero_le _, Nat.zero_le _, Nat.zero_le _⟩

theorem effect {t : State} (h : s.Executing rest) (ht : s.Effect t) : t.Executing rest :=
  carriesBanks.effect (fun _ k => carriesLines.enableTrunk k) (fun _ k _ => carriesLines.disableTrunk k)
    (fun _ k => carriesLines.countOn k _) (fun _ l _ => carriesLines.replaceReferences l) (fun _ set h => h.acknowledge set)
    (fun _ mask interval h => h.setMask mask interval) (fun _ h => h.restarted) s t h ht

/-- The end of an execution: the request enters the cache, and its response is placed or held (R143 to R145). -/
theorem complete {r : Request} {reply : Reply} (h : reply.state.Executing rest) (hr : r.key ∉ rest.map Request.key) :
    (complete r reply).channel.Running ∧ (complete r reply).channel.requests.length ≤ rest.length := by
  have hcached := h.running.withCache
  have hlen : reply.state.channel.requests.length ≤ rest.length := by
    rcases h.queue with hq | hq <;> simp [hq]
  have hkey : r.key ∉ reply.state.channel.requests.map Request.key := by
    rcases h.queue with hq | hq <;> simp only [hq]
    · exact hr
    · exact List.not_mem_nil
  simp only [State.complete, placeResponse]
  split
  · exact ⟨hcached _, hlen⟩
  · split
    next hroom => exact ⟨(hcached _).withResponse hroom _, hlen⟩
    next hfull => exact ⟨(hcached _).hold (by simpa using hfull) hkey, hlen⟩

theorem carryOut {r : Request} (h : s.Executing rest) (hr : r.key ∉ rest.map Request.key) :
    (s.carryOut r).channel.Running ∧ (s.carryOut r).channel.requests.length ≤ rest.length :=
  complete (h.effect (effect_execute s r)) hr

end Executing

/-! ### The processor (R141, R142) -/

theorem runProcessor_sound (n : Nat) (h : s.channel.Running) (hn : s.channel.requests.length ≤ n) :
    (runProcessor n s).ChannelSound := by
  induction n generalizing s with
  | zero => exact Channel.sound_iff.mpr ⟨h, fun _ => List.length_eq_zero_iff.mp (Nat.le_zero.mp hn)⟩
  | succ n ih =>
    unfold runProcessor
    split
    next r rest hheld hrequests =>
      have hdistinct := h.keysDistinct
      rw [hrequests, List.map_cons, List.nodup_cons] at hdistinct
      rw [hrequests] at hn
      have hexecuting : (s.withChannel { s.channel with requests := rest }).Executing rest := by
        refine ⟨⟨⟨h.collected, h.counters, ?_, hdistinct.2, fun x hx => ?_, h.cacheFits, h.cacheDistinct, h.transmitFits,
          h.noticesFit, h.streakFits, h.sendingInside⟩, h.waitsForRoom⟩, hheld, .inl rfl⟩
        · have := h.queueFits
          rw [hrequests] at this
          exact (Nat.le_succ _).trans this
        · exact nomatch hheld.symm.trans hx
      obtain ⟨hrunning, hlen⟩ := hexecuting.carryOut hdistinct.1
      exact ih hrunning (hlen.trans (Nat.le_of_succ_le_succ hn))
    next hstop =>
      refine Channel.sound_iff.mpr ⟨h, fun hheld => ?_⟩
      cases hrequests : s.channel.requests with
      | nil => rfl
      | cons r rest => exact (hstop r rest hheld hrequests).elim

theorem process_sound (h : s.channel.Running) : s.process.ChannelSound := runProcessor_sound _ h le_rfl

/-- Room goes to the held response, and the processor goes on (R145, R146). -/
theorem placeHeld_sound (h : s.channel.Fits) (hidle : s.channel.held = none → s.channel.requests = []) :
    s.placeHeld.ChannelSound := by
  unfold placeHeld
  split
  next x hheld =>
    split
    next hroom =>
      have hplaced := h.withResponse hroom x.response
      refine process_sound ⟨⟨hplaced.collected, hplaced.counters, hplaced.queueFits, hplaced.keysDistinct, nofun,
        hplaced.cacheFits, hplaced.cacheDistinct, hplaced.transmitFits, hplaced.noticesFit, hplaced.streakFits,
        hplaced.sendingInside⟩, fun hne => absurd rfl hne⟩
    next hfull =>
      exact Channel.sound_iff.mpr ⟨⟨h, fun _ => by simpa [roomForResponse] using hfull⟩, hidle⟩
  next hheld => exact Channel.sound_iff.mpr ⟨⟨h, fun hne => absurd hheld hne⟩, hidle⟩

theorem handOutRoom_sound (h : s.channel.Fits) (hidle : s.channel.held = none → s.channel.requests = []) :
    s.handOutRoom.ChannelSound :=
  (placeHeld_sound h hidle).grown (grown_offerNotices _)

/-! ### Admission and the receive assembler (R133 to R141) -/

namespace ChannelSound

theorem offerResponse (h : s.ChannelSound) (m : Message) (isCached : Bool) :
    (s.offerResponse m isCached).ChannelSound := by
  unfold State.offerResponse
  split
  next hroom => exact Channel.Sound.of_running h ((Channel.Sound.running h).withResponse hroom m) rfl rfl
  next => exact channelSound_occurrences.raise _ _ h

theorem not_mem_of_inFlight {r : Request} (h : s.inFlight r = false) :
    r.key ∉ s.channel.requests.map Request.key ∧ ∀ x, s.channel.held = some x → x.key ≠ r.key := by
  obtain ⟨hwaiting, hheld⟩ := Bool.or_eq_false_iff.mp h
  refine ⟨?_, fun x hx => ?_⟩
  · simpa using hwaiting
  · rw [hx] at hheld
    simpa [HeldResponse.key] using hheld

theorem enqueue {r : Request} (h : s.ChannelSound) (hflight : s.inFlight r = false)
    (hroom : s.channel.requests.length < 4) : (s.enqueue r).ChannelSound := by
  obtain ⟨hwaiting, hheld⟩ := not_mem_of_inFlight hflight
  have hr := Channel.Sound.running h
  refine process_sound ⟨⟨hr.collected, hr.counters, ?_, ?_, fun x hx => ?_, hr.cacheFits, hr.cacheDistinct,
    hr.transmitFits, hr.noticesFit, hr.streakFits, hr.sendingInside⟩, hr.waitsForRoom⟩
  · simpa using hroom
  · simp only [fields_withChannel, List.map_append, List.map_singleton, List.nodup_append]
    refine ⟨hr.keysDistinct, List.nodup_singleton _, fun a ha b hb => ?_⟩
    rw [List.mem_singleton.mp hb]
    exact fun heq => hwaiting (heq ▸ ha)
  · simp only [fields_withChannel, List.map_append, List.map_singleton, List.mem_append, List.mem_singleton, not_or]
    exact ⟨hr.heldApart x hx, hheld x hx⟩

theorem receiveRequest (h : s.ChannelSound) (r : Request) : (s.receiveRequest r).ChannelSound := by
  simp only [State.receiveRequest, admission]
  split
  · split
    · exact h
    next hflight =>
      split
      · split
        · exact h.offerResponse _ _
        · exact h
      · split
        · split
          · exact h
          · exact h.offerResponse _ _
        next hroom => exact h.enqueue (by simpa using hflight) (by omega)
  · exact h

theorem takeWord (h : s.ChannelSound) (w : SlotRecord) : (s.takeWord w).ChannelSound := by
  unfold State.takeWord
  split
  · exact h.withAssembler fun words hwords => by cases hwords; exact ⟨le_rfl, Nat.le_add_left 1 31⟩
  · exact h
  · split
    next hlt =>
      refine h.withAssembler fun words hwords => ?_
      cases hwords
      rw [List.length_append, List.length_singleton]
      omega
    next => exact (h.withAssembler (a := .discard) nofun).mgmtError _
  · simp only [evaluateMessage]
    split
    · exact (h.withAssembler (a := .gap) nofun).mgmtError _
    · exact (h.withAssembler (a := .gap) nofun).receiveRequest _
  · exact (h.withAssembler (a := .gap) nofun).mgmtError _
  · exact h.withAssembler nofun
  · exact h

/-! ### The transmitter (R147, R148) -/

theorem withTransmitter {c : Channel} (h : c.Fits) {x : Transmitter}
    (hx : ∀ it k attached, x = .sending it k attached → 1 ≤ k ∧ k < it.message.words.length) :
    ({ c with transmitter := x } : Channel).Fits :=
  ⟨h.collected, h.counters, h.queueFits, h.keysDistinct, h.heldApart, h.cacheFits, h.cacheDistinct, h.transmitFits,
    h.noticesFit, h.streakFits, hx⟩

/-- What the transmitter does after a word: another transmitter state, and for a notice that has been sent the event unit
(R147, R174). -/
theorem channel_afterWord (s : State) (it : TxItem) (k : Nat) (attached : Bool) :
    ∃ x, (s.afterWord it k attached).channel = { s.channel with transmitter := x }
      ∧ ∀ it' k' attached', x = .sending it' k' attached' → 1 ≤ k' ∧ k' < it'.message.words.length := by
  have hsent (u : State) (e : Fin 16) : (u.noticeSent e).channel = u.channel := by
    unfold noticeSent
    split <;> rfl
  simp only [afterWord]
  split
  next hinside =>
    refine ⟨_, rfl, fun it' k' attached' heq => ?_⟩
    cases heq
    exact ⟨Nat.le_add_left 1 k, hinside⟩
  next =>
    refine ⟨.gap, ?_, nofun⟩
    split
    · rw [hsent]
      rfl
    · rfl

theorem streak_choose {q : List TxItem} {streak n : Nat} {it : TxItem} (h : choose q streak = some (it, n)) : n ≤ 4 := by
  unfold choose at h
  split at h
  · exact nomatch h
  · cases h
    exact Nat.zero_le _
  · cases h
    exact Nat.zero_le _
  · split at h <;> cases h
    · omega
    · exact Nat.zero_le _

theorem transmitStart (h : s.ChannelSound) : s.transmitStart.ChannelSound := by
  have hr := Channel.Sound.running h
  unfold State.transmitStart
  split
  · exact Channel.Sound.of_running h ⟨withTransmitter hr.toFits nofun, hr.waitsForRoom⟩ rfl rfl
  next it k attached _ =>
    obtain ⟨x, hchannel, hx⟩ := channel_afterWord s it k attached
    unfold ChannelSound
    rw [hchannel]
    exact Channel.Sound.of_running h ⟨withTransmitter hr.toFits hx, hr.waitsForRoom⟩ rfl rfl
  next =>
    split
    · exact h
    next it n hchosen =>
      dsimp only
      obtain ⟨x, hchannel, hx⟩ := channel_afterWord
        (s.withChannel { s.channel with txQueue := s.channel.txQueue.erase it, streak := n }) it 0 it.isNotice
      have hleft : ({ s.channel with txQueue := s.channel.txQueue.erase it, streak := n } : Channel).Fits :=
        ⟨hr.collected, hr.counters, hr.queueFits, hr.keysDistinct, hr.heldApart, hr.cacheFits, hr.cacheDistinct,
          List.erase_sublist.length_le.trans hr.transmitFits,
          (List.erase_sublist.filter _).length_le.trans hr.noticesFit, streak_choose hchosen, hr.sendingInside⟩
      refine handOutRoom_sound ?_ ?_ <;> rw [hchannel]
      · exact withTransmitter hleft hx
      · exact h.idleTakes

theorem renotifyStart (h : s.ChannelSound) : s.renotifyStart.ChannelSound := by
  unfold State.renotifyStart
  split
  · exact h
  · split
    · exact Channel.Sound.grown h (grown_offerNotices ((s.withEvents _).withEvents _))
    · exact h

theorem carriesStarts : CarriesStarts ChannelSound where
  toKeptByOccurrences := channelSound_occurrences
  advance _ h := h
  supervise _ := carriesBanks.superviseStart
  activate _ := carriesBanks.activateDue
  holdover _ := carriesLines.holdoverStart
  designate _ k := carriesLines.designate k
  latch _ := carriesBanks.latchFrameBank
  select _ := carriesBanks.protection _ _
  renotify _ h := h.renotifyStart
  settle _ word := carriesBanks.settleFrames word
  transmit _ h := h.transmitStart
  repeats _ k := carriesLines.countOn k _

theorem initial : Channel.initial.Sound where
  collected := nofun
  counters := ⟨Nat.zero_le _, Nat.zero_le _, Nat.zero_le _, Nat.zero_le _, Nat.zero_le _⟩
  queueFits := Nat.zero_le _
  keysDistinct := List.nodup_nil
  heldApart := nofun
  idleTakes _ := rfl
  waitsForRoom hheld := absurd rfl hheld
  cacheFits := Nat.zero_le _
  cacheDistinct := List.nodup_nil
  transmitFits := Nat.zero_le _
  noticesFit := Nat.zero_le _
  streakFits := Nat.zero_le _
  sendingInside := nofun

theorem move {i : Instr} {t : State} (h : s.ChannelSound) (hm : Move s i t) : t.ChannelSound := by
  cases hm with
  | stays => exact h
  | poweredUp => exact initial
  | heldInReset => exact h
  | released => exact initial
  | started => exact carriesStarts.frameStart h
  | copied => exact carriesBanks.copyEngineStep h
  | searched k line => exact carriesLines.receiverSearches k line h
  | verified k line => exact carriesLines.receiverVerifies k line h
  | examined k window => exact carriesLines.receiverAtBoundary k window h
  | signalLost k => exact carriesLines.receiverSignalLoss k h
  | signalReturned k => exact carriesLines.receiverSignalReturn k h
  | delivered k f elapsed => exact carriesLines.deliverFrame (fun _ w h => h.takeWord w) k f elapsed h
  | roomHandedOut => exact handOutRoom_sound (Channel.Sound.running h).toFits h.idleTakes
  | noticesOffered => exact Channel.Sound.grown h (grown_offerNotices s)
  | received r => exact h.receiveRequest _

end ChannelSound

end State

end Sys2Proof.Machine

open Sys2Proof Sys2Proof.Machine

/-- Settles O7: the three branches of the cache's rule, and `cached_fits`. -/
theorem cacheKeepsTheLatestFour : Obligations.CacheKeepsTheLatestFour := by
  intro l e
  refine ⟨cached_of_same, fun hnew hlen => ?_, fun hnew hlen => ?_, cached_fits⟩
  · rw [cached_of_new hnew, if_pos hlen.ge, List.drop_one]
  · rw [cached_of_new hnew, if_neg (Nat.not_le.mpr hlen)]

end

section
/-!
The event unit and its notices through every command (R171 to R178): an event record is QUEUED exactly while it has one
notice of its own.
-/

namespace Sys2Proof.Machine

open State

/-! ### Notices of one event -/

/-- The notices of an event that wait in a queue. -/
def waitingOf (q : List TxItem) (e : Fin 16) : Nat := (q.filter (TxItem.isNoticeOf e)).length

/-- The notice of an event in transmission, if its record still has it as its own. -/
def Transmitter.attachedTo (x : Transmitter) (e : Fin 16) : Nat :=
  match x with
  | .sending it _ attached => if attached && it.isNoticeOf e then 1 else 0
  | _ => 0

theorem ownNotices_eq (c : Channel) (e : Fin 16) : ownNotices c e = waitingOf c.txQueue e + c.transmitter.attachedTo e := rfl

theorem waitingOf_append (q l : List TxItem) (e : Fin 16) : waitingOf (q ++ l) e = waitingOf q e + waitingOf l e := by
  simp only [waitingOf, List.filter_append, List.length_append]

theorem waitingOf_singleton (it : TxItem) (e : Fin 16) : waitingOf [it] e = if it.isNoticeOf e then 1 else 0 := by
  unfold waitingOf
  rw [List.filter_singleton]
  cases it.isNoticeOf e <;> rfl

theorem waitingOf_erase {q : List TxItem} {it : TxItem} (h : it ∈ q) (e : Fin 16) :
    waitingOf (q.erase it) e + (if it.isNoticeOf e then 1 else 0) = waitingOf q e := by
  have hperm : (q.erase it ++ [it]).Perm q := (List.perm_append_singleton it _).trans (List.perm_cons_erase h).symm
  rw [← waitingOf_singleton, ← waitingOf_append]
  exact (hperm.filter _).length_eq

theorem isNotice_of_isNoticeOf {it : TxItem} {e : Fin 16} (h : it.isNoticeOf e = true) : it.isNotice = true := by
  cases it with
  | response m => exact nomatch h
  | notice e' m => rfl

/-! ### Event records under their mask bit -/

namespace EventRecord

variable {r : EventRecord} {masked : Bool}

theorem sound_clear : clear.sound masked := ⟨fun _ => rfl, nofun, Nat.zero_le _, fun _ => rfl⟩

theorem sound_occurred (h : r.sound masked) (d : Half) : (occurred r d masked).sound masked := by
  obtain ⟨-, -, hcount, hmasked⟩ := h
  refine ⟨nofun, fun _ => ?_, satInc_le hcount, fun hm => ?_⟩
  · show 1 ≤ satInc 255 r.count
    unfold satInc
    split <;> omega
  · simp only [occurred, hm, hmasked hm]
    rfl

/-- An occurrence moves no record into or out of QUEUED. -/
theorem queued_occurred (r : EventRecord) (d : Half) (masked : Bool) :
    (occurred r d masked).notice = .queued ↔ r.notice = .queued := by
  simp only [occurred]
  split
  next howed =>
    have hnone : r.notice = .none := by
      simp only [Bool.and_eq_true, decide_eq_true_eq] at howed
      exact howed.2
    simp [hnone]
  next => exact Iff.rfl

/-- The flag of a record that has a notice is set, and its mask bit as well. -/
theorem of_notice (h : r.sound masked) (hn : r.notice ≠ .none) : r.flag = true ∧ masked = false := by
  obtain ⟨hclear, _, _, hnone⟩ := h
  constructor
  · by_contra hflag
    have := hclear (by simpa using hflag)
    exact hn (by rw [this]; rfl)
  · by_contra hmasked
    exact hn (hnone (by simpa using hmasked))

/-- A record with a flag may take another notice state under a set mask bit, and NONE under any. -/
theorem sound_withNotice (h : r.sound masked) (hflag : r.flag = true) {n : NoticeState} {masked' : Bool}
    (hn : masked' = true → n = .none) : ({ r with notice := n } : EventRecord).sound masked' := by
  obtain ⟨-, hone, hcount, -⟩ := h
  exact ⟨fun hclear => absurd (hflag.symm.trans hclear) nofun, hone, hcount, hn⟩

theorem sound_noNotice (h : r.sound masked) (masked' : Bool) :
    ({ r with notice := .none } : EventRecord).sound masked' := by
  obtain ⟨hclear, hone, hcount, -⟩ := h
  refine ⟨fun hflag => ?_, hone, hcount, fun _ => rfl⟩
  rw [hclear hflag]
  rfl

end EventRecord

namespace State

namespace EventsSound

variable {s : State}

/-! ### Changes of the channel and of the event unit -/

theorem withChannel (h : s.EventsSound) {c : Channel} (hc : ∀ e, ownNotices c e = ownNotices s.channel e) :
    (s.withChannel c).EventsSound :=
  ⟨h.records, fun e => (hc e).trans (h.queued e), h.renotify⟩

theorem withEvents (h : s.EventsSound) {u : EventUnit} (hr : ∀ e, (u.records.get e).sound (!u.mask.getLsbD e.val))
    (hq : ∀ e, (u.records.get e).notice = .queued ↔ (s.record e).notice = .queued)
    (hn : u.renotify ≤ 256 * u.interval.toNat ∧ (u.interval ≠ 0 → 1 ≤ u.renotify)) : (s.withEvents u).EventsSound := by
  refine ⟨hr, fun e => ?_, hn⟩
  show ownNotices s.channel e = if (u.records.get e).notice = .queued then 1 else 0
  rw [h.queued e, if_congr (hq e) rfl rfl]

/-- A record that is changed by itself, with what its notices are then. -/
theorem setRecord {c : Channel} {i : Fin 16} {r : EventRecord} (h : s.EventsSound)
    (hr : r.sound (!s.events.mask.getLsbD i.val)) (hi : ownNotices c i = if r.notice = .queued then 1 else 0)
    (hc : ∀ e, e ≠ i → ownNotices c e = ownNotices s.channel e) :
    ((s.withChannel c).withEvents (s.events.setRecord i r)).EventsSound := by
  have hrecord (e : Fin 16) :
      ((s.withChannel c).withEvents (s.events.setRecord i r)).record e = if e = i then r else s.record e :=
    Table.get_set ..
  refine ⟨fun e => ?_, fun e => ?_, h.renotify⟩
  · rw [hrecord]
    split
    next heq => exact heq ▸ hr
    next => exact h.records e
  · rw [hrecord]
    split
    next heq => exact heq ▸ hi
    next hne => exact (hc e hne).trans (h.queued e)

/-! ### Occurrences and offerings (R172, R173) -/

/-- An owed notice that joins the queue is its record's only one. -/
theorem takeNotice (h : s.EventsSound) {i : Fin 16} (howed : (s.record i).notice = .owed) : (s.takeNotice i).EventsSound := by
  have hnot : (s.record i).notice ≠ .queued := by simp [howed]
  obtain ⟨hflag, hmask⟩ := EventRecord.of_notice (h.records i) (by simp [howed])
  have hown : waitingOf s.channel.txQueue i + s.channel.transmitter.attachedTo i = 0 := by
    rw [← ownNotices_eq, h.queued i, if_neg hnot]
  have hset := h.setRecord (i := i) (r := { s.record i with notice := .queued })
    (c := { s.channel with txQueue := s.channel.txQueue ++ [.notice i (s.noticeOf i)] })
    (EventRecord.sound_withNotice (h.records i) hflag fun hm => absurd (hm.symm.trans hmask) nofun)
    (by
      rw [if_pos rfl, ownNotices_eq, waitingOf_append, waitingOf_singleton]
      simp only [TxItem.isNoticeOf, beq_self_eq_true, if_pos]
      omega)
    (fun e he => by
      rw [ownNotices_eq, ownNotices_eq, waitingOf_append, waitingOf_singleton]
      simp [TxItem.isNoticeOf, Ne.symm he])
  exact ⟨hset.records, hset.queued, hset.renotify⟩

theorem offerFrom (l : List (Fin 16)) (h : s.EventsSound) : (State.offerFrom l s).EventsSound := by
  induction l generalizing s with
  | nil => exact h
  | cons e l ih =>
    unfold State.offerFrom
    split
    next howed =>
      split
      · exact ih (h.takeNotice howed)
      · exact h
    next => exact ih h

theorem offerNotices (h : s.EventsSound) : s.offerNotices.EventsSound := h.offerFrom _

theorem occurrences : KeptByOccurrences State.EventsSound where
  raised s ev d h := by
    refine offerNotices (h.setRecord (c := s.channel) (EventRecord.sound_occurred (h.records _) d) ?_ fun _ _ => rfl)
    rw [h.queued, if_congr (EventRecord.queued_occurred _ _ _) rfl rfl]

/-! ### Responses -/

theorem responses : KeptByResponses State.EventsSound where
  toKeptByOccurrences := occurrences
  rest s c hqueue htransmitter h := h.withChannel fun e => by rw [ownNotices_eq, ownNotices_eq, hqueue, htransmitter]
  response s m h := h.withChannel fun e => by
    rw [ownNotices_eq, ownNotices_eq, waitingOf_append, waitingOf_singleton]
    rfl

theorem carriesLines : CarriesLines State.EventsSound where
  toKeptByOccurrences := occurrences
  aborted _ := responses.assemblerLosesLock
  receivers _ _ h := ⟨h.records, h.queued, h.renotify⟩
  stores _ _ h := ⟨h.records, h.queued, h.renotify⟩
  timing _ _ h := ⟨h.records, h.queued, h.renotify⟩

theorem carriesBanks : CarriesBanks State.EventsSound where
  toKeptByOccurrences := occurrences
  map _ _ h := ⟨h.records, h.queued, h.renotify⟩
  exchange _ _ h := ⟨h.records, h.queued, h.renotify⟩
  protection _ _ h := ⟨h.records, h.queued, h.renotify⟩
  operation _ _ h := ⟨h.records, h.queued, h.renotify⟩
  supervision _ _ h := ⟨h.records, h.queued, h.renotify⟩

/-! ### Withdrawal, acknowledgement and mask (R175, R176, R178) -/

theorem waitingOf_withdraw (s : State) (which : Fin 16 → Bool) (e : Fin 16) :
    waitingOf (s.withdraw which).channel.txQueue e = if which e then 0 else waitingOf s.channel.txQueue e := by
  simp only [State.withdraw, fields_withChannel, waitingOf, List.filter_filter]
  cases hwhich : which e with
  | true =>
    rw [if_pos rfl, List.length_eq_zero_iff, List.filter_eq_nil_iff]
    intro it _
    cases it with
    | response m => simp [TxItem.isNoticeOf]
    | notice e' m =>
      by_cases heq : e' = e <;> simp [TxItem.isNoticeOf, heq, hwhich]
  | false =>
    rw [if_neg nofun]
    refine congrArg List.length (List.filter_congr fun it _ => ?_)
    cases it with
    | response m => simp [TxItem.isNoticeOf]
    | notice e' m =>
      by_cases heq : e' = e <;> simp [TxItem.isNoticeOf, heq, hwhich]

theorem attachedTo_withdraw (s : State) (which : Fin 16 → Bool) (e : Fin 16) :
    (s.withdraw which).channel.transmitter.attachedTo e = if which e then 0 else s.channel.transmitter.attachedTo e := by
  simp only [State.withdraw, fields_withChannel]
  cases s.channel.transmitter with
  | idle => simp [Transmitter.attachedTo]
  | gap => simp [Transmitter.attachedTo]
  | sending it k attached =>
    cases it with
    | response m => simp [Transmitter.attachedTo, TxItem.isNoticeOf]
    | notice e' m =>
      by_cases heq : e' = e
      · subst heq
        cases hwhich : which e' <;> simp [Transmitter.attachedTo, TxItem.isNoticeOf, hwhich]
      · simp [Transmitter.attachedTo, TxItem.isNoticeOf, heq]

/-- After a withdrawal the events named have no notice of their own, and the others have theirs. -/
theorem ownNotices_withdraw (s : State) (which : Fin 16 → Bool) (e : Fin 16) :
    ownNotices (s.withdraw which).channel e = if which e then 0 else ownNotices s.channel e := by
  rw [ownNotices_eq, ownNotices_eq, waitingOf_withdraw, attachedTo_withdraw]
  split <;> rfl

/-- Notices withdrawn, with records that no longer count them. -/
theorem withdrawn (h : s.EventsSound) (which : Fin 16 → Bool) {u : EventUnit}
    (hr : ∀ e, (u.records.get e).sound (!u.mask.getLsbD e.val))
    (hq : ∀ e, (u.records.get e).notice = .queued ↔ which e = false ∧ (s.record e).notice = .queued)
    (hn : u.renotify ≤ 256 * u.interval.toNat ∧ (u.interval ≠ 0 → 1 ≤ u.renotify)) :
    ((s.withdraw which).withEvents u).EventsSound := by
  refine ⟨hr, fun e => ?_, hn⟩
  show ownNotices (s.withdraw which).channel e = if (u.records.get e).notice = .queued then 1 else 0
  rw [ownNotices_withdraw, h.queued e, if_congr (hq e) rfl rfl]
  cases which e <;> simp

theorem clearRecords (h : s.EventsSound) (which : Fin 16 → Bool) :
    ((s.withdraw which).clearRecords which).EventsSound := by
  refine h.withdrawn which (fun e => ?_) (fun e => ?_) h.renotify
  · simp only [EventUnit.mapRecords, Table.get_ofFn]
    split
    · exact EventRecord.sound_clear
    · exact h.records e
  · simp only [EventUnit.mapRecords, Table.get_ofFn]
    split
    next hwhich => simp [hwhich, EventRecord.clear]
    next hwhich =>
      simp only [Bool.not_eq_true] at hwhich
      simp only [hwhich, true_and]
      exact Iff.rfl

theorem acknowledge (h : s.EventsSound) (set : BitVec 16) : (s.acknowledge set).EventsSound :=
  (h.clearRecords fun e => set.getLsbD e.val).offerNotices

theorem renotify_reload (interval : Byte) :
    256 * interval.toNat ≤ 256 * interval.toNat ∧ (interval ≠ 0 → 1 ≤ 256 * interval.toNat) := by
  refine ⟨le_rfl, fun hne => ?_⟩
  have : interval.toNat ≠ 0 := fun heq => hne (BitVec.eq_of_toNat_eq heq)
  omega

/-- Records that gain their mask bit may become OWED (R176). -/
theorem owe (h : s.EventsSound) (gained : Fin 16 → Bool) (hgained : ∀ e, gained e = true → s.events.mask.getLsbD e.val = true) :
    (s.withEvents (s.events.mapRecords fun e r =>
      if gained e && r.flag && r.notice = .none then { r with notice := .owed } else r)).EventsSound := by
  refine h.withEvents (fun e => ?_) (fun e => ?_) h.renotify
  · simp only [EventUnit.mapRecords, Table.get_ofFn]
    split
    next howe =>
      simp only [Bool.and_eq_true, decide_eq_true_eq] at howe
      obtain ⟨⟨hg, hflag⟩, -⟩ := howe
      exact EventRecord.sound_withNotice (h.records e) hflag fun hm => absurd (hgained e hg) (by simpa using hm)
    next => exact h.records e
  · simp only [EventUnit.mapRecords, Table.get_ofFn]
    split
    next howe =>
      simp only [Bool.and_eq_true, decide_eq_true_eq] at howe
      have hnone : (s.record e).notice = .none := howe.2
      simp [hnone]
    next => exact Iff.rfl

theorem setMask (h : s.EventsSound) (mask : BitVec 16) (interval : Byte) : (s.setMask mask interval).EventsSound := by
  simp only [State.setMask]
  have hlost := h.withdrawn (fun e => s.events.mask.getLsbD e.val && !mask.getLsbD e.val)
    (u := { (s.events.mapRecords fun e r =>
        if s.events.mask.getLsbD e.val && !mask.getLsbD e.val then { r with notice := .none } else r) with
      mask := mask, interval := interval, renotify := 256 * interval.toNat })
    (fun e => ?sound) (fun e => ?queued) (renotify_reload interval)
  case sound =>
    simp only [EventUnit.mapRecords, Table.get_ofFn]
    split
    · exact EventRecord.sound_noNotice (h.records e) _
    next hkept =>
      obtain ⟨hflag, hcount, hbound, hmasked⟩ := h.records e
      refine ⟨hflag, hcount, hbound, fun hm => hmasked ?_⟩
      by_contra hold
      rw [Bool.not_eq_true, Bool.not_eq_false'] at hold
      exact hkept (by rw [hold, Bool.true_and]; exact hm)
  case queued =>
    simp only [EventUnit.mapRecords, Table.get_ofFn]
    split
    next hl => exact iff_of_false nofun fun hqueued => nomatch hl.symm.trans hqueued.1
    next hl =>
      simp only [Bool.not_eq_true] at hl
      simp only [hl, true_and]
      exact Iff.rfl
  refine (hlost.offerNotices.owe (fun e => !s.events.mask.getLsbD e.val && mask.getLsbD e.val) fun e hg => ?_).offerNotices
  obtain ⟨hmask, -⟩ := settings_offerFrom (List.finRange 16) ((s.withdraw _).withEvents _)
  rw [State.offerNotices, hmask]
  simp only [Bool.and_eq_true] at hg
  exact hg.2

theorem restarted (h : s.EventsSound) : s.restarted.EventsSound := by
  have hcleared := h.clearRecords fun _ => true
  refine ⟨hcleared.records, fun e => ?_, h.renotify⟩
  have hown : s.restarted.channel.transmitter.attachedTo e = 0 := attachedTo_withdraw s (fun _ => true) e
  have hrecord : s.restarted.record e = .clear := Table.get_ofFn _ e
  rw [hrecord, ownNotices_eq, hown]
  rfl

/-! ### Requests -/

theorem carriesRequests : CarriesRequests State.EventsSound where
  toKeptByResponses := responses
  effect := carriesBanks.effect (fun _ k => carriesLines.enableTrunk k) (fun _ k _ => carriesLines.disableTrunk k)
    (fun _ k => carriesLines.countOn k _) (fun _ l _ => carriesLines.replaceReferences l) (fun _ set h => h.acknowledge set)
    (fun _ mask interval h => h.setMask mask interval) fun _ h => h.restarted

theorem handOutRoom (h : s.EventsSound) : s.handOutRoom.EventsSound := (carriesRequests.placeHeld h).offerNotices

/-! ### The transmitter (R147, R174) -/

theorem withTransmitter (h : s.EventsSound) {x : Transmitter}
    (hx : ∀ e, x.attachedTo e = s.channel.transmitter.attachedTo e) :
    (s.withChannel { s.channel with transmitter := x }).EventsSound :=
  h.withChannel fun e => by rw [ownNotices_eq, ownNotices_eq, hx]

/-- The last word of a notice: its record becomes SENT, and the notice is no longer its own. -/
theorem noticeSent (h : s.EventsSound) {i : Fin 16} {m : Message} {k : Nat}
    (hx : s.channel.transmitter = .sending (.notice i m) k true) :
    ((s.withChannel { s.channel with transmitter := .gap }).noticeSent i).EventsSound := by
  have hattached (e : Fin 16) : s.channel.transmitter.attachedTo e = if i = e then 1 else 0 := by
    rw [hx]
    simp [Transmitter.attachedTo, TxItem.isNoticeOf]
  have hown (e : Fin 16) : ownNotices { s.channel with transmitter := .gap } e + (if i = e then 1 else 0)
      = ownNotices s.channel e := by
    rw [ownNotices_eq, ownNotices_eq, hattached]
    rfl
  have hqueued : (s.record i).notice = .queued := by
    by_contra hnot
    have := hown i
    rw [h.queued i, if_neg hnot, if_pos rfl] at this
    omega
  obtain ⟨hflag, hmask⟩ := EventRecord.of_notice (h.records i) (by simp [hqueued])
  have hsent := h.setRecord (i := i) (c := { s.channel with transmitter := .gap })
    (r := { s.record i with notice := .sent })
    (EventRecord.sound_withNotice (h.records i) hflag fun hm => absurd (hm.symm.trans hmask) nofun)
    (by
      have := hown i
      rw [h.queued i, if_pos hqueued, if_pos rfl] at this
      rw [if_neg nofun]
      omega)
    (fun e he => by
      have := hown e
      rwa [if_neg (Ne.symm he)] at this)
  unfold State.noticeSent
  split
  · exact hsent
  next hnot => exact absurd hqueued hnot

theorem afterWord (h : s.EventsSound) {it : TxItem} {k : Nat} {attached : Bool}
    (hx : s.channel.transmitter = .sending it k attached) : (s.afterWord it k attached).EventsSound := by
  simp only [State.afterWord]
  split
  · refine h.withTransmitter fun e => ?_
    rw [hx]
    rfl
  · have hgap (hnone : ∀ e, (Transmitter.sending it k attached).attachedTo e = 0) :
        (s.withChannel { s.channel with transmitter := .gap }).EventsSound :=
      h.withTransmitter fun e => by rw [hx, hnone]; rfl
    cases it with
    | response m => exact hgap fun e => by simp [Transmitter.attachedTo, TxItem.isNoticeOf]
    | notice i m =>
      cases attached with
      | true => exact h.noticeSent hx
      | false => exact hgap fun e => rfl

theorem afterWord_withTransmitter (s : State) (it : TxItem) (k : Nat) (attached : Bool) (x : Transmitter) :
    (s.withChannel { s.channel with transmitter := x }).afterWord it k attached = s.afterWord it k attached := rfl

theorem mem_of_choose {q : List TxItem} {streak n : Nat} {it : TxItem} (h : choose q streak = some (it, n)) : it ∈ q := by
  unfold choose at h
  split at h
  · exact nomatch h
  next hfound _ =>
    cases h
    exact List.mem_of_find?_eq_some hfound
  next hfound =>
    cases h
    exact List.mem_of_find?_eq_some hfound
  next hresponse hnotice =>
    split at h <;> cases h
    · exact List.mem_of_find?_eq_some hresponse
    · exact List.mem_of_find?_eq_some hnotice

/-- A message that the transmitter takes leaves the queue, and a notice stays its record's own. -/
theorem chosen (h : s.EventsSound) (hx : s.channel.transmitter = .idle) {it : TxItem} (hit : it ∈ s.channel.txQueue)
    (streak : Nat) :
    ((s.withChannel { s.channel with txQueue := s.channel.txQueue.erase it, streak := streak }).withChannel
      { s.channel with
        txQueue := s.channel.txQueue.erase it, streak := streak, transmitter := .sending it 0 it.isNotice }).EventsSound := by
  refine h.withChannel (c := { s.channel with
    txQueue := s.channel.txQueue.erase it, streak := streak, transmitter := .sending it 0 it.isNotice }) fun e => ?_
  have hattached : (Transmitter.sending it 0 it.isNotice).attachedTo e = if it.isNoticeOf e then 1 else 0 := by
    simp only [Transmitter.attachedTo]
    cases hof : it.isNoticeOf e with
    | true => simp [isNotice_of_isNoticeOf hof]
    | false => simp
  rw [ownNotices_eq, ownNotices_eq, hattached, hx, waitingOf_erase hit]
  rfl

theorem transmitStart (h : s.EventsSound) : s.transmitStart.EventsSound := by
  unfold State.transmitStart
  split
  next hx =>
    refine h.withTransmitter fun e => ?_
    rw [hx]
    rfl
  next hx => exact h.afterWord hx
  next hx =>
    split
    · exact h
    next it n hchosen =>
      dsimp only
      rw [← afterWord_withTransmitter _ _ _ _ (.sending it 0 it.isNotice)]
      exact ((h.chosen hx (mem_of_choose hchosen) n).afterWord rfl).handOutRoom

theorem renotifySent (h : s.EventsSound) : s.renotifySent.EventsSound := by
  refine offerNotices (h.withEvents (fun e => ?_) (fun e => ?_) h.renotify)
  · simp only [EventUnit.mapRecords, Table.get_ofFn]
    split
    next hsent =>
      obtain ⟨hflag, hmask⟩ := EventRecord.of_notice (h.records e)
        (show (s.record e).notice ≠ .none from fun hnone => nomatch hsent.symm.trans hnone)
      exact EventRecord.sound_withNotice (h.records e) hflag fun hm => absurd (hm.symm.trans hmask) nofun
    next => exact h.records e
  · simp only [EventUnit.mapRecords, Table.get_ofFn]
    split
    next hsent =>
      have hsent' : (s.record e).notice = .sent := hsent
      simp [hsent']
    next => exact Iff.rfl

theorem renotifyStart (h : s.EventsSound) : s.renotifyStart.EventsSound := by
  unfold State.renotifyStart
  split
  · exact h
  · split
    · exact renotifySent (h.withEvents h.records (fun _ => Iff.rfl) (renotify_reload _))
    next hcount =>
      refine h.withEvents h.records (fun _ => Iff.rfl) ⟨?_, fun _ => ?_⟩
      · exact (Nat.sub_le _ _).trans h.renotify.1
      · show 1 ≤ s.events.renotify - 1
        omega

theorem carriesStarts : CarriesStarts State.EventsSound where
  toKeptByOccurrences := occurrences
  advance _ := carriesLines.advanceFrame
  supervise _ := carriesBanks.superviseStart
  activate _ := carriesBanks.activateDue
  holdover _ := carriesLines.holdoverStart
  designate _ k := carriesLines.designate k
  latch _ := carriesBanks.latchFrameBank
  select _ := carriesBanks.protection _ _
  renotify _ h := h.renotifyStart
  settle _ word := carriesBanks.settleFrames word
  transmit _ h := h.transmitStart
  repeats _ k := carriesLines.countOn k _

theorem initial {u : State} (hevents : u.events = .initial) (hchannel : u.channel = .initial) : u.EventsSound := by
  have hrecord (e : Fin 16) : u.record e = .clear := by
    unfold record
    rw [hevents]
    exact Table.get_fill _ e
  refine ⟨fun e => ?_, fun e => ?_, by rw [hevents]; decide⟩
  · rw [hrecord]
    exact EventRecord.sound_clear
  · rw [hrecord, hchannel]
    rfl

theorem move {i : Instr} {t : State} (h : s.EventsSound) (hm : Move s i t) : t.EventsSound := by
  cases hm with
  | stays => exact h
  | poweredUp => exact initial rfl rfl
  | heldInReset => exact ⟨h.records, h.queued, h.renotify⟩
  | released => exact initial rfl rfl
  | started => exact carriesStarts.frameStart h
  | copied => exact carriesBanks.copyEngineStep h
  | searched k line => exact carriesLines.receiverSearches k line h
  | verified k line => exact carriesLines.receiverVerifies k line h
  | examined k window => exact carriesLines.receiverAtBoundary k window h
  | signalLost k => exact carriesLines.receiverSignalLoss k h
  | signalReturned k => exact carriesLines.receiverSignalReturn k h
  | delivered k f elapsed => exact carriesLines.deliverFrame (fun _ => carriesRequests.takeWord) k f elapsed h
  | roomHandedOut => exact h.handOutRoom
  | noticesOffered => exact h.offerNotices
  | received r => exact carriesRequests.receiveRequest _ h

end EventsSound

end State

end Sys2Proof.Machine

open Sys2Proof Sys2Proof.Machine Sys2Proof.Machine.State

/-- Settles O59: each half by its own invariant of every command, `ChannelSound.move` and `EventsSound.move`. -/
theorem stepKeepsChannelAndEventsSound : Obligations.StepKeepsChannelAndEventsSound := by
  refine ⟨fun s t h hstep => ?channel, fun s t h hstep => ?events⟩
  case channel => exact step_keeps (P := State.ChannelSound) (fun _ _ h => h) (fun _ _ _ h hm => h.move hm) h hstep
  case events =>
    exact step_keeps (P := State.EventsSound) (fun _ _ h => ⟨h.records, h.queued, h.renotify⟩)
      (fun _ _ _ h hm => h.move hm) h hstep

/-- Settles O60: every law holds of the power-up values. -/
theorem resetStateIsSound : Obligations.ResetStateIsSound := by
  exact {
    map := MapSound.powerUp Straps.open 0
    protection := protectionSound_powerUp Straps.open 0
    control := ⟨Supervision.sound_powerUp false, trivial⟩
    trunks := TrunksSound.powerUp 0 rfl rfl rfl
    channel := ChannelSound.initial
    events := EventsSound.initial rfl rfl }

end

section
/-!
Resets, admission, the end of an execution and refusals (R136 to R145, R187).
-/

namespace Sys2Proof.Machine

open State

/-! ### Values after a reset -/

theorem EventUnit.unmaskedFlag_initial : EventUnit.initial.unmaskedFlag = false := by
  have hclear (e : Fin 16) : (EventUnit.initial.records.get e).flag = false :=
    congrArg EventRecord.flag (Table.get_fill EventRecord.clear e)
  simp only [unmaskedFlag, hclear, Bool.false_and, List.any_eq_false, Bool.false_eq_true, not_false_eq_true, implies_true]

namespace State

variable {s : State}

theorem alertLow_initial (h : s.events = .initial) : s.alertLow = false := by
  unfold alertLow
  rw [h, EventUnit.unmaskedFlag_initial, Bool.and_false]

theorem bank_cleared (h : s.map = .powerUp) (b : BankId) : s.bank b = .cleared := by
  cases b <;> simp only [bank, h] <;> rfl

theorem entries_cleared (i : Fin 128) : Bank.cleared.entries.get i = .off := Table.get_fill _ i

theorem isLapsed_powerUp {supv : Bool} (h : s.supervision = .powerUp supv) : s.isLapsed = false := by
  unfold isLapsed
  rw [h]
  cases supv <;> rfl

theorem released_of_thawed (h : s.map.frozen = false) (pins : Straps) :
    (s.released pins).map = .powerUp ∧ (s.released pins).supervision = .powerUp pins.supv := by
  simp only [released, releasedMap, releasedSupervision, h]
  exact ⟨rfl, rfl⟩

theorem released_of_frozen (h : s.map.frozen = true) (pins : Straps) :
    (s.released pins).map = { ConnectionMap.powerUp with bankF := s.map.bankF, frozen := true }
    ∧ (s.released pins).supervision = ⟨.lapsed .reset, pins.supv, 8192, none⟩ := by
  simp only [released, releasedMap, releasedSupervision, h]
  exact ⟨rfl, rfl⟩

/-! ### Admission (R136, R138 to R141) -/

theorem addressed_iff (s : State) (unit : BitVec 4) : s.addressed unit = true ↔ unit = s.straps.unit ∨ unit = 15 := by
  simp [addressed]

theorem inFlight_iff (s : State) (h : ReqHeader) (code : Byte) (p : List Byte) :
    s.inFlight (requestOf h code p) = true ↔ keyInFlight s h.seq h.check := by
  simp only [inFlight, keyInFlight, Bool.or_eq_true, List.any_eq_true, beq_iff_eq, Request.key, requestOf, Prod.mk.injEq]
  refine or_congr Iff.rfl ?_
  cases s.channel.held <;> simp

theorem cacheHit_eq (s : State) (h : ReqHeader) (code : Byte) (p : List Byte) :
    s.cacheHit (requestOf h code p) = keyInCache s h.seq h.check := by
  refine List.find?_congr fun e _ => ?_
  rw [Bool.eq_iff_iff]
  simp [Request.key, requestOf]

/-- Every command that brings a request is its arrival. -/
theorem exec_of_bringsRequest {i : Instr} {h : ReqHeader} {code : Byte} {p : List Byte} (hi : bringsRequest i h code p)
    (s : State) : exec i s = .next (s.arrives (requestOf h code p)) := by
  rcases hi with ⟨k, rfl, rfl⟩ | rfl
  · cases k <;> rfl
  · rfl

theorem arrives_of_released (hs : s.resetHeld = false) (r : Request) : s.arrives r = s.receiveRequest r :=
  if_neg (by simp [hs])

theorem receiveRequest_of_addressed {r : Request} (h : s.addressed r.unit = true) : s.receiveRequest r = s.admission r :=
  if_pos h

theorem admission_of_inFlight {r : Request} (h : s.inFlight r = true) : s.admission r = s := if_pos h

theorem admission_of_cacheHit {r : Request} {e : CacheEntry} (hflight : s.inFlight r = false)
    (hcache : s.cacheHit r = some e) :
    s.admission r = match e.result with
      | some m => s.offerResponse m true
      | none => s := by
  unfold admission
  rw [hflight, hcache]
  rfl

theorem admission_of_new {r : Request} (hflight : s.inFlight r = false) (hcache : s.cacheHit r = none) :
    s.admission r =
      if 4 ≤ s.channel.requests.length then
        if r.isBroadcast then s else s.offerResponse (s.responseTo r .full []) false
      else s.enqueue r := by
  unfold admission
  rw [hflight, hcache]
  rfl

theorem offerResponse_of_room (m : Message) (isCached : Bool) (h : s.channel.txQueue.length < 8) :
    s.offerResponse m isCached = queueResponse s m :=
  if_pos (decide_eq_true h)

theorem offerResponse_of_full (m : Message) (isCached : Bool) (h : 8 ≤ s.channel.txQueue.length) :
    s.offerResponse m isCached = s.raise .txOverflow (overflowDetail isCached m.seq) :=
  if_neg (by simpa [roomForResponse] using h)

/-- A processor that holds a response, or that finds no request, stays as it is (R142). -/
theorem runProcessor_of_stopped (n : Nat) (h : s.channel.held ≠ none ∨ s.channel.requests = []) :
    runProcessor n s = s := by
  cases n with
  | zero => rfl
  | succ n =>
    unfold runProcessor
    split
    next hheld hrequests =>
      rcases h with h | h
      · exact absurd hheld h
      · exact nomatch hrequests.symm.trans h
    next => rfl

theorem process_of_stopped (h : s.channel.held ≠ none ∨ s.channel.requests = []) : s.process = s :=
  runProcessor_of_stopped _ h

theorem isBroadcast_iff (r : Request) : r.isBroadcast = true ↔ r.unit = 15 := beq_iff_eq

/-! ### Refusals (R142, R186) -/

/-- A reply whose status is a refusal leaves the state, and its payload is empty but for EDIT_MISMATCH and a FALLBACK
refused with STATE. -/
def HarmlessRefusal (s : State) (code : Byte) (reply : Reply) : Prop :=
  16 ≤ reply.status.code.toNat →
    reply.state = s ∧
    (reply.payload = []
      ∨ reply.status = .editMismatch ∧ reply.payload = octets (s.bank s.shadowBank).editCount
      ∨ code = ReqKind.fallback.code ∧ reply.status = .state ∧ reply.payload = [s.supervision.state.causeCode])

namespace HarmlessRefusal

variable {code : Byte} {reply : Reply}

theorem refuse (st : Status) : s.HarmlessRefusal code (refuse s st) := fun _ => ⟨rfl, .inl rfl⟩

theorem accept {st : Status} {payload : List Byte} {u : State} (h : st.code.toNat < 16) :
    s.HarmlessRefusal code ⟨st, payload, u⟩ :=
  fun hrefused => absurd hrefused (Nat.not_le.mpr h)

theorem ite {c : Prop} [Decidable c] {other : Reply} (h : s.HarmlessRefusal code reply)
    (hother : s.HarmlessRefusal code other) : s.HarmlessRefusal code (if c then reply else other) := by
  split
  · exact h
  · exact hother

/-- A check that refuses, before the rest. -/
theorem check {c : Prop} [Decidable c] {st : Status} (h : s.HarmlessRefusal code reply) :
    s.HarmlessRefusal code (if c then Machine.refuse s st else reply) :=
  ite (refuse st) h

theorem doWriteEntry (p : List Byte) : s.HarmlessRefusal code (s.doWriteEntry p) := by
  refine check ?_
  split
  · refine check (check ?_)
    split
    · exact refuse _
    · exact accept (by decide)
  · exact refuse _

theorem doReadEntry (p : List Byte) : s.HarmlessRefusal code (s.doReadEntry p) := by
  refine check ?_
  split
  · exact accept (by decide)
  · exact refuse _

theorem doClearBank (p : List Byte) : s.HarmlessRefusal code (s.doClearBank p) := by
  refine check ?_
  split
  · exact refuse _
  · split
    · exact refuse _
    · exact accept (by decide)

/-- SWITCH is the one request whose refusal reports more, the shadow's edit count (R66). -/
theorem doSwitch (r : Request) : s.HarmlessRefusal code (s.doSwitch r) :=
  check (check (check (check (ite (fun _ => ⟨rfl, .inr (.inl ⟨rfl, rfl⟩)⟩) (accept (by decide))))))

theorem doCopy (r : Request) : s.HarmlessRefusal code (s.doCopy r) := by
  refine check ?_
  split
  · exact check (check (check (check (accept (by decide)))))
  · exact refuse _

theorem doCancel (p : List Byte) : s.HarmlessRefusal code (s.doCancel p) := by
  refine check ?_
  split
  · exact refuse _
  · exact accept (by decide)

theorem doReadProtection (p : List Byte) : s.HarmlessRefusal code (s.doReadProtection p) := by
  refine check ?_
  split
  · exact accept (by decide)
  · exact refuse _

theorem doProtectionCommand (p : List Byte) : s.HarmlessRefusal code (s.doProtectionCommand p) := by
  refine check ?_
  split
  · exact check (check (accept (by decide)))
  · exact refuse _

theorem doSetTrunk (p : List Byte) : s.HarmlessRefusal code (s.doSetTrunk p) := by
  refine check ?_
  split
  · exact check (accept (by decide))
  · exact refuse _

theorem doReadCounters (p : List Byte) : s.HarmlessRefusal code (s.doReadCounters p) := by
  refine check ?_
  split
  · exact accept (by decide)
  · exact refuse _

theorem doKeep (p : List Byte) : s.HarmlessRefusal code (s.doKeep p) := by
  refine check ?_
  split
  · exact refuse _
  next phase _ =>
    have hstatus : (s.keepAlive phase).1 = .ok ∨ (s.keepAlive phase).1 = .stale := by
      simp only [keepAlive]
      split
      · split
        · exact .inr rfl
        · exact .inl rfl
      · exact .inl rfl
    refine accept (st := (s.keepAlive phase).1) ?_
    rcases hstatus with h | h <;> rw [h] <;> decide

/-- FALLBACK in LAPSED reports the lapse cause (R164). -/
theorem doFallback (p : List Byte) : s.HarmlessRefusal ReqKind.fallback.code (s.doFallback p) := by
  refine check ?_
  split
  · exact fun _ => ⟨rfl, .inr (.inr ⟨rfl, rfl, rfl⟩)⟩
  · exact accept (by decide)

theorem perform (k : ReqKind) (r : Request) : s.HarmlessRefusal k.code (s.perform k r) := by
  cases k with
  | identify => exact check (accept (by decide))
  | readStatus => exact check (accept (by decide))
  | restart => exact check (accept (by decide))
  | writeEntry => exact doWriteEntry _
  | readEntry => exact doReadEntry _
  | clearBank => exact doClearBank _
  | switch => exact doSwitch r
  | cancel => exact doCancel _
  | copy => exact doCopy r
  | readProtection => exact doReadProtection _
  | protectionCommand => exact doProtectionCommand _
  | setTrunk => exact doSetTrunk _
  | readCounters => exact doReadCounters _
  | setReference => exact check (check (accept (by decide)))
  | keep => exact doKeep _
  | setSupervision => exact check (check (check (accept (by decide))))
  | fallback => exact doFallback _
  | resume => exact check (check (check (check (check (accept (by decide))))))
  | freezeFallback => exact check (check (check (accept (by decide))))
  | readEvents => exact check (accept (by decide))
  | ackEvents => exact check (accept (by decide))
  | setEvents => exact check (accept (by decide))

theorem execute (r : Request) : s.HarmlessRefusal r.code (s.execute r) := by
  unfold State.execute
  split
  next k hk =>
    have hcode : k.code = r.code := by simpa using List.find?_some hk
    exact hcode ▸ perform k r
  next => exact refuse _

end HarmlessRefusal

end State

end Sys2Proof.Machine

open Sys2Proof Sys2Proof.Machine Sys2Proof.Machine.State

/-- Settles O3: the items of the power-up state, one by one. -/
theorem powerUpGivesPowerUpValues : Obligations.PowerUpGivesPowerUpValues := by
  intro pins low s
  have hbank := (s.poweredUp pins low).bank_cleared rfl
  have hlapsed : (s.poweredUp pins low).isLapsed = false := isLapsed_powerUp (supv := pins.supv) rfl
  refine ⟨s.poweredUp pins low, rfl, rfl, rfl, rfl, fun b i => ?entries, fun b => ?edits, rfl,
    liveBank_of_not_lapsed _ hlapsed, rfl, rfl, rfl, fun i => Table.get_fill _ i, fun k => Table.get_fill _ k,
    fun k => Table.get_fill _ k, rfl, rfl, fun k => Table.get_fill _ k, rfl, rfl, rfl, rfl, rfl, rfl, rfl, rfl,
    fun e => Table.get_fill _ e, rfl, rfl, rfl, rfl, alertLow_initial rfl⟩
  case entries => rw [hbank, entries_cleared]
  case edits => rw [hbank]; rfl

/-- Settles O5: the items of the released state; map and supervision by whether F was frozen. -/
theorem resetReleaseGivesResetValues : Obligations.ResetReleaseGivesResetValues := by
  intro pins s hheld
  refine ⟨s.released pins, by rw [exec, execResetNRelease, if_pos hheld], rfl, rfl, rfl, fun b hb => ?mainBanks, ?current,
    rfl, rfl, fun hfrozen => ?frozen, fun hthawed => ?thawed, fun i => Table.get_fill _ i, fun k => Table.get_fill _ k,
    fun k => Table.get_fill _ k, rfl, rfl, fun k => Table.get_fill _ k, rfl, rfl, rfl, rfl, rfl, rfl, rfl,
    fun e => Table.get_fill _ e, rfl, rfl, rfl, rfl, alertLow_initial rfl⟩
  case mainBanks =>
    have hcleared : (s.released pins).bank b = .cleared := by
      simp only [released, releasedMap]
      cases b with
      | f => exact absurd rfl hb
      | bank0 => cases s.map.frozen <;> rfl
      | bank1 => cases s.map.frozen <;> rfl
    rw [hcleared]
    exact ⟨entries_cleared, rfl⟩
  case current =>
    simp only [released, releasedMap, currentBank]
    cases s.map.frozen <;> rfl
  case frozen =>
    obtain ⟨hmap, hsupervision⟩ := released_of_frozen hfrozen pins
    refine ⟨?_, by rw [hmap], liveBank_of_lapsed _ ?_, hsupervision⟩
    · simp only [bank, hmap]
    · simp only [isLapsed, hsupervision]
  case thawed =>
    obtain ⟨hmap, hsupervision⟩ := released_of_thawed hthawed pins
    have hlive := liveBank_of_not_lapsed _ (isLapsed_powerUp hsupervision)
    rw [bank_cleared hmap, hlive, hmap, currentBank, hmap]
    exact ⟨entries_cleared, rfl, rfl, rfl, hsupervision⟩

/-- Settles O6: the three outcomes of the end of an execution. -/
theorem executionIsCachedAndAnswered : Obligations.ExecutionIsCachedAndAnswered := by
  intro r st payload u m t
  refine ⟨fun hunit => ?broadcast, fun hunit hroom => ?placed, fun hunit hfull => ?held⟩
  case broadcast =>
    have hb : r.isBroadcast = true := (isBroadcast_iff r).mpr hunit
    simp only [t, complete, hb, if_true]
  all_goals have hb : r.isBroadcast = false := by simpa [Request.isBroadcast] using hunit
  case placed =>
    have hr : roomForResponse u.channel.txQueue = true := decide_eq_true hroom
    simp only [t, complete, hb, Bool.false_eq_true, if_false, placeResponse, fields_withChannel, hr, if_true,
      withChannel_withChannel]
    rfl
  case held =>
    have hr : roomForResponse u.channel.txQueue = false := by simpa [roomForResponse] using hfull
    simp only [t, complete, hb, Bool.false_eq_true, if_false, placeResponse, fields_withChannel, hr,
      withChannel_withChannel]
    rfl

/-- Settles O8: every request refuses before it acts (`HarmlessRefusal.execute`). -/
theorem refusalChangesNothing : Obligations.RefusalChangesNothing := fun _ r => HarmlessRefusal.execute r

/-- Settles O9: the first two tests of admission. -/
theorem repeatedRequestsAreNotExecuted : Obligations.RepeatedRequestsAreNotExecuted := by
  intro i h code p s hi hs
  rw [exec_of_bringsRequest hi, arrives_of_released hs]
  have haddr (hunit : h.unit = s.straps.unit ∨ h.unit = 15) :
      s.receiveRequest (requestOf h code p) = s.admission (requestOf h code p) :=
    receiveRequest_of_addressed ((s.addressed_iff h.unit).mpr hunit)
  refine ⟨fun hother hall => ?other, fun hunit hflight => ?flight, fun hunit hflight e he => ?cached⟩
  case other =>
    have hnot : ¬ s.addressed h.unit = true := fun haddressed =>
      ((s.addressed_iff h.unit).mp haddressed).elim hother hall
    exact congrArg _ (if_neg hnot)
  case flight => rw [haddr hunit, admission_of_inFlight ((s.inFlight_iff h code p).mpr hflight)]
  case cached =>
    have hnew : s.inFlight (requestOf h code p) = false := by
      rw [← Bool.not_eq_true, s.inFlight_iff]
      exact hflight
    rw [haddr hunit, admission_of_cacheHit hnew ((s.cacheHit_eq h code p).trans he)]
    refine ⟨fun hnone => by rw [hnone], fun m hm hroom => ?_, fun m hm hfull => ?_⟩
    · rw [hm]
      exact congrArg _ (offerResponse_of_room m true hroom)
    · rw [hm]
      exact congrArg _ (offerResponse_of_full m true hfull)

/-- Settles O10: the last two tests of admission. -/
theorem fullQueueRefusesAndWaitingQueues : Obligations.FullQueueRefusesAndWaitingQueues := by
  intro i h code p s hi hs hunit hflight hcache
  have hnew : s.inFlight (requestOf h code p) = false := by
    rw [← Bool.not_eq_true, s.inFlight_iff]
    exact hflight
  rw [exec_of_bringsRequest hi, arrives_of_released hs,
    receiveRequest_of_addressed ((s.addressed_iff h.unit).mpr hunit),
    admission_of_new hnew ((s.cacheHit_eq h code p).trans hcache)]
  have hbroadcast : (requestOf h code p).isBroadcast = true ↔ h.unit = 15 := isBroadcast_iff _
  refine ⟨fun hfour hall => ?broadcast, fun hfour hone hroom => ?full, fun hfour hone hfull => ?overflow,
    fun hfew hheld => ?joins⟩
  case broadcast => rw [if_pos hfour, if_pos (hbroadcast.mpr hall)]
  case full =>
    rw [if_pos hfour, if_neg (mt hbroadcast.mp hone), offerResponse_of_room _ _ hroom]
    rfl
  case overflow =>
    rw [if_pos hfour, if_neg (mt hbroadcast.mp hone), offerResponse_of_full _ _ hfull]
    simp only [overflowDetail, responseTo, requestOf, Bool.false_eq_true, if_false, Nat.zero_add]
  case joins =>
    rw [if_neg (Nat.not_le.mpr hfew)]
    exact congrArg _ (process_of_stopped (.inl hheld))

/-- Settles O11: a code that names no request is executed with BAD_CODE. -/
theorem unknownCodeIsAnsweredBadCode : Obligations.UnknownCodeIsAnsweredBadCode := by
  intro s h code p hs hcode
  have hunknown : ReqKind.ofCode code = none := List.find?_eq_none.mpr fun k _ => by simpa using hcode k
  have hexecute : s.execute (requestOf h code p) = refuse s .badCode := by
    unfold execute
    rw [show (requestOf h code p).code = code from rfl, hunknown]
  rw [exec, execUnknownCodeRequest, arrives_ready hs, carryOut, hexecute]
  rfl

end

section
/-!
Codes and octets read back (R182, R185), and the requests to the connection map (R10 to R21, R152).
-/

namespace Sys2Proof.Machine

open State

/-! ### Codes read back (R182) -/

theorem toNat_ofNat_of_lt {n : Nat} (h : n < 256) : (BitVec.ofNat 8 n).toNat = n := by
  rw [BitVec.toNat_ofNat]
  exact Nat.mod_eq_of_lt h

theorem ofNat_toNat_eq {b : Byte} {n : Nat} (h : b.toNat = n) : b = BitVec.ofNat 8 n := by
  rw [← h, BitVec.ofNat_toNat, BitVec.setWidth_eq]

theorem ne_of_toNat_lt {b c : Byte} (h : c.toNat < b.toNat) : b ≠ c := by
  rintro rfl
  exact lt_irrefl _ h

theorem BankId.ofCode_code (b : BankId) : ofCode b.code = some b := by cases b <;> rfl

theorem BankId.ofCode_eq_none {x : Byte} (h : 2 < x.toNat) : ofCode x = none := by
  unfold ofCode
  rw [if_neg (ne_of_toNat_lt (c := 0) (Nat.zero_lt_of_lt h)), if_neg (ne_of_toNat_lt (c := 1) (Nat.lt_of_succ_lt h)),
    if_neg (ne_of_toNat_lt (c := 2) h)]

theorem BankId.code_injective {b c : BankId} (h : b.code = c.code) : b = c :=
  Option.some_injective _ ((ofCode_code b).symm.trans ((congrArg ofCode h).trans (ofCode_code c)))

theorem BankId.ofCode_eq_some {x : Byte} {b : BankId} (h : ofCode x = some b) : x = b.code := by
  unfold ofCode at h
  split at h
  next hx => cases h; exact hx
  next =>
    split at h
    next hx => cases h; exact hx
    next =>
      split at h
      next hx => cases h; exact hx
      next => exact nomatch h

theorem markOk_iff (b : Byte) : markOk b = true ↔ b.toNat ≤ 1 := by
  unfold markOk
  simp only [Bool.or_eq_true, beq_iff_eq, ← BitVec.toNat_inj]
  show b.toNat = 0 ∨ b.toNat = 1 ↔ _
  omega

theorem not_markOk_iff (b : Byte) : markOk b = false ↔ 1 < b.toNat := by
  rw [← Bool.not_eq_true, markOk_iff, Nat.not_le]

namespace State

theorem indexOf_eq_some {b : Byte} {i : Fin 128} (h : b.toNat = i.val) : indexOf b = some i := by
  unfold indexOf
  rw [dif_pos (by omega)]
  exact congrArg some (Fin.ext h)

theorem indexOf_ofNat (i : Fin 128) : indexOf (BitVec.ofNat 8 i.val) = some i :=
  indexOf_eq_some (toNat_ofNat_of_lt (by omega))

theorem indexOf_eq_none {b : Byte} (h : 127 < b.toNat) : indexOf b = none := dif_neg (by omega)

theorem trunkOf_eq_some {b : Byte} {t : Trunk} (h : b.toNat = t.val) : trunkOf b = some t := by
  unfold trunkOf
  rw [dif_pos (by omega)]
  exact congrArg some (Fin.ext h)

theorem trunkOf_ofNat (t : Trunk) : trunkOf (BitVec.ofNat 8 t.val) = some t :=
  trunkOf_eq_some (toNat_ofNat_of_lt (by omega))

theorem trunkOf_eq_none {b : Byte} (h : 3 < b.toNat) : trunkOf b = none := dif_neg (by omega)

end State

/-- A request at a Ready part is answered with what performing it gives. -/
theorem exec_answered {s : State} {h : ReqHeader} (hs : s.Ready h) (k : ReqKind) {p payload : List Byte} {st : Status}
    {u : State} (hr : s.perform k (requestOf h k.code p) = ⟨st, payload, u⟩) :
    exec (k.command h p) s = answered h k p st payload u := by
  rw [exec_command_of_ready hs, hr]

/-! ### The bank checks (R14 to R16) -/

namespace State

variable {s : State} {p : List Byte} {b : BankId} {i : Fin 128}

theorem holdsBank_iff (s : State) (b : BankId) : s.holdsBank b = true ↔ bankHeld s b := by
  unfold holdsBank bankHeld
  cases s.operation with
  | none => simp
  | some op => cases op <;> simp

theorem frozenBank_eq_false_iff (s : State) (b : BankId) : s.frozenBank b = false ↔ (b = .f → s.map.frozen = false) := by
  unfold frozenBank
  by_cases hb : b = .f <;> simp [hb]

theorem bankRefusal_of_live (h : b = s.liveBank) : s.bankRefusal b = some .liveBank := if_pos h

theorem bankRefusal_of_frozen (hlive : b ≠ s.liveBank) (hb : b = .f) (hfrozen : s.map.frozen = true) :
    s.bankRefusal b = some .frozen := by
  unfold bankRefusal
  rw [if_neg hlive, if_pos (by simp [frozenBank, hb, hfrozen])]

theorem bankRefusal_of_held (hlive : b ≠ s.liveBank) (hfrozen : b = .f → s.map.frozen = false) (hheld : bankHeld s b) :
    s.bankRefusal b = some .bankBusy := by
  unfold bankRefusal
  rw [if_neg hlive, (s.frozenBank_eq_false_iff b).mpr hfrozen, if_neg nofun, if_pos ((s.holdsBank_iff b).mpr hheld)]

theorem bankRefusal_of_free (hlive : b ≠ s.liveBank) (hfrozen : b = .f → s.map.frozen = false) (hheld : ¬ bankHeld s b) :
    s.bankRefusal b = none := by
  refine (s.bankRefusal_eq_none_iff b).mpr ⟨hlive, (s.frozenBank_eq_false_iff b).mpr hfrozen, ?_⟩
  rw [← Bool.not_eq_true, holdsBank_iff]
  exact hheld

/-- A reply that comes about only where the bank may be written (R14 to R16, R21). -/
def bankGuarded (s : State) (b : BankId) (reply : Reply) : Reply :=
  match s.bankRefusal b with
  | some st => refuse s st
  | none => reply

theorem bankGuarded_of_refusal {st : Status} (h : s.bankRefusal b = some st) (reply : Reply) :
    s.bankGuarded b reply = refuse s st := by
  unfold bankGuarded
  rw [h]

theorem bankGuarded_of_free (h : s.bankRefusal b = none) (reply : Reply) : s.bankGuarded b reply = reply := by
  unfold bankGuarded
  rw [h]

theorem namesReserved_iff (s : State) (i : Fin 128) (e : Entry) :
    s.namesReserved i e = true ↔ i = s.reserved ∨ ∃ t ∈ e.allTerms, t.input = (s.mgmtTrunk, 31) := by
  simp only [namesReserved, Bool.or_eq_true, beq_iff_eq, List.any_eq_true]

/-! ### READ_ENTRY and CLEAR_BANK (R19 to R21) -/

theorem doReadEntry_of_length (h : p.length ≠ 2) : s.doReadEntry p = refuse s .badLength := if_pos h

theorem doReadEntry_of_range (hlen : p.length = 2) (h : s.selectBank (byteAt p 0) = none ∨ indexOf (byteAt p 1) = none) :
    s.doReadEntry p = refuse s .badField := by
  unfold doReadEntry
  rw [if_neg (not_not_intro hlen)]
  split
  next hb hi =>
    rcases h with h | h
    · exact nomatch h.symm.trans hb
    · exact nomatch h.symm.trans hi
  next => rfl

theorem doReadEntry_of_fields (hlen : p.length = 2) (hb : s.selectBank (byteAt p 0) = some b)
    (hi : indexOf (byteAt p 1) = some i) :
    s.doReadEntry p =
      ⟨.ok, b.code :: (octets (s.bank b).editCount ++ [mark (s.copyInto b)] ++ ((s.bank b).entries.get i).octets), s⟩ := by
  unfold doReadEntry
  rw [if_neg (not_not_intro hlen), hb, hi]

theorem selectBank_code (s : State) (b : BankId) : s.selectBank b.code = some b := by
  unfold selectBank
  rw [if_neg (by cases b <;> decide), BankId.ofCode_code]

theorem selectBank_live (s : State) : s.selectBank 3 = some s.liveBank := rfl

theorem selectBank_eq_none {x : Byte} (h : 3 < x.toNat) : s.selectBank x = none := by
  unfold selectBank
  rw [if_neg (ne_of_toNat_lt (c := 3) h), BankId.ofCode_eq_none (by omega)]

theorem mark_copyInto (s : State) (b : BankId) :
    mark (s.copyInto b) =
      match s.operation with
      | some (.copy _ _ dst _) => mark (b == dst)
      | _ => 0 := by
  unfold copyInto
  cases s.operation with
  | none => rfl
  | some op => cases op <;> rfl

theorem doClearBank_of_length (h : p.length ≠ 1) : s.doClearBank p = refuse s .badLength := if_pos h

theorem doClearBank_of_range (hlen : p.length = 1) (h : 2 < (byteAt p 0).toNat) :
    s.doClearBank p = refuse s .badField := by
  unfold doClearBank
  rw [if_neg (not_not_intro hlen), BankId.ofCode_eq_none h]

/-- The bank checks that follow. -/
theorem doClearBank_of_bank (hlen : p.length = 1) (hb : BankId.ofCode (byteAt p 0) = some b) :
    s.doClearBank p = s.bankGuarded b
      ⟨.ok, octets ((s.bank b).editCount + 1), s.setBank b ⟨Table.fill 128 .off, (s.bank b).editCount + 1⟩⟩ := by
  unfold doClearBank
  rw [if_neg (not_not_intro hlen), hb]
  rfl

theorem doClearBank_of_refusal {st : Status} (h : s.bankRefusal b = some st) :
    s.doClearBank [b.code] = refuse s st := by
  rw [doClearBank_of_bank (p := [b.code]) rfl b.ofCode_code, bankGuarded_of_refusal h]

theorem doClearBank_of_free (h : s.bankRefusal b = none) :
    s.doClearBank [b.code] =
      ⟨.ok, octets ((s.bank b).editCount + 1), s.setBank b ⟨Table.fill 128 .off, (s.bank b).editCount + 1⟩⟩ := by
  rw [doClearBank_of_bank (p := [b.code]) rfl b.ofCode_code, bankGuarded_of_free h]

/-! ### IDENTIFY (R152) -/

theorem doIdentify_nil (s : State) :
    s.doIdentify [] = ⟨.ok, [0x1C, 0x64, 0x12, 0x01, BitVec.zeroExtend 8 s.straps.unit, strapsOctet s.straps], s⟩ :=
  if_neg (not_not_intro rfl)

/-! ### WRITE_ENTRY (R10 to R17) -/

theorem doWriteEntry_of_length (h : p.length ≠ 2 + entryLength (p.drop 2)) : s.doWriteEntry p = refuse s .badLength :=
  if_pos h

theorem doWriteEntry_of_range (hlen : p.length = 2 + entryLength (p.drop 2))
    (h : BankId.ofCode (byteAt p 0) = none ∨ indexOf (byteAt p 1) = none ∨ entryFieldsOk (p.drop 2) = false) :
    s.doWriteEntry p = refuse s .badField := by
  simp only [doWriteEntry]
  rw [if_neg (not_not_intro hlen)]
  split
  next hb hi hfields =>
    rcases h with h | h | h
    · exact nomatch h.symm.trans hb
    · exact nomatch h.symm.trans hi
    · exact nomatch h.symm.trans hfields
  next => rfl

/-- The checks that follow those on length and fields. -/
theorem doWriteEntry_of_fields (hlen : p.length = 2 + entryLength (p.drop 2)) (hb : BankId.ofCode (byteAt p 0) = some b)
    (hi : indexOf (byteAt p 1) = some i) (hfields : entryFieldsOk (p.drop 2) = true) :
    s.doWriteEntry p =
      if !entryShapeOk (p.drop 2) then refuse s .badEntry
      else if s.namesReserved i (entryOf (p.drop 2)) then refuse s .reservedSlot
      else
        s.bankGuarded b ⟨.ok, octets ((s.bank b).editCount + 1), s.putEntry b i (entryOf (p.drop 2))⟩ := by
  simp only [doWriteEntry]
  rw [if_neg (not_not_intro hlen), hb, hi, hfields]
  rfl

end State

/-! ### Encoded entries (R185) -/

theorem toNat_extract_high (a : Byte) : (a.extractLsb' 5 3).toNat = a.toNat / 32 := by
  rw [BitVec.extractLsb'_toNat, Nat.shiftRight_eq_div_pow]
  have := a.isLt
  omega

theorem toNat_extract_low (a : Byte) (n : Nat) : (a.extractLsb' 0 n).toNat = a.toNat % 2 ^ n := by
  rw [BitVec.extractLsb'_toNat, Nat.shiftRight_zero]

theorem getLsbD_seven (b : Byte) : b.getLsbD 7 = (b.toNat / 128 == 1) := by
  rw [BitVec.getLsbD, Nat.testBit_eq_decide_div_mod_eq, Bool.eq_iff_iff]
  have := b.isLt
  simp only [decide_eq_true_eq, beq_iff_eq]
  omega

/-- The term two octets stand for (R185). -/
theorem termOf_eq_some {a b : Byte} {t : Term} (ha : a.toNat = 32 * t.trunk.val + t.slot.val)
    (hinvert : b.toNat / 128 = t.invert.toNat) (hshift : b.toNat % 16 = t.shift.val) : termOf a b = some t := by
  obtain ⟨trunk, slot, shift, invert⟩ := t
  dsimp only at ha hinvert hshift
  have hhigh := toNat_extract_high a
  have hlow := toNat_extract_low a 5
  have hnibble := toNat_extract_low b 4
  unfold termOf
  rw [dif_pos (by omega)]
  refine congrArg some ?_
  congr 1
  · exact Fin.ext (show (a.extractLsb' 5 3).toNat = trunk.val by omega)
  · exact Fin.ext (show (a.extractLsb' 0 5).toNat = slot.val by omega)
  · exact Fin.ext (show (b.extractLsb' 0 4).toNat = shift.val by omega)
  · rw [getLsbD_seven, hinvert]
    cases invert <;> rfl

theorem termOf_octets (t : Term) :
    termOf (BitVec.ofNat 3 t.trunk.val ++ BitVec.ofNat 5 t.slot.val)
      (BitVec.ofBool t.invert ++ (0#3) ++ BitVec.ofNat 4 t.shift.val) = some t := by
  have hinvert := t.invert.toNat_le
  refine termOf_eq_some ?_ ?_ ?_ <;>
    simp only [toNat_append_eq_add, BitVec.toNat_ofNat, BitVec.toNat_ofBool] <;> omega

/-- Terms read back one after another from the place where they stand. -/
theorem map_termOf_octets (ts : List Term) (l rest : List Byte) :
    (List.range ts.length).map (fun k =>
      termOf (byteAt (l ++ (ts.flatMap Term.octets ++ rest)) (l.length + 2 * k))
        (byteAt (l ++ (ts.flatMap Term.octets ++ rest)) (l.length + 1 + 2 * k))) = ts.map some := by
  induction ts generalizing l with
  | nil => rfl
  | cons t ts ih =>
    have hnext := ih (l ++ t.octets)
    have hsame : l ++ t.octets ++ (ts.flatMap Term.octets ++ rest) = l ++ ((t :: ts).flatMap Term.octets ++ rest) := by
      simp only [List.flatMap_cons, List.append_assoc]
    have hplace (k : Nat) : (l ++ t.octets).length + 2 * k = l.length + 2 * (k + 1)
        ∧ (l ++ t.octets).length + 1 + 2 * k = l.length + 1 + 2 * (k + 1) := by
      rw [List.length_append, show t.octets.length = 2 from rfl]
      omega
    simp only [hsame, hplace] at hnext
    rw [List.length_cons, List.range_succ_eq_map, List.map_cons, List.map_map, List.map_cons]
    refine congrArg₂ List.cons ?_ hnext
    rw [Nat.mul_zero, Nat.add_zero, byteAt_append_length l _ 1]
    have hfirst := byteAt_append_length l ((t :: ts).flatMap Term.octets ++ rest) 0
    rw [Nat.add_zero] at hfirst
    rw [hfirst]
    exact termOf_octets t

theorem entryMode_cons (m : Byte) (rest : List Byte) : entryMode (m :: rest) = (m.extractLsb' 4 4).toNat := rfl

theorem entryQual_cons (m : Byte) (rest : List Byte) : entryQual (m :: rest) = m.extractLsb' 0 2 := rfl

/-- The terms of an entry that is neither FIXED nor has other octets before them. -/
theorem entryTerms_octets {m n k : Byte} {ts : List Term} (rest : List Byte) (hmode : (m.extractLsb' 4 4).toNat ≠ 3)
    (hn : n.toNat = ts.length) : entryTerms (m :: n :: k :: (ts.flatMap Term.octets ++ rest)) = ts.map some := by
  have hfixed : fixedLength (m :: n :: k :: (ts.flatMap Term.octets ++ rest)) = 0 := if_neg hmode
  have hcount : entryTermCount (m :: n :: k :: (ts.flatMap Term.octets ++ rest)) = ts.length := hn
  unfold entryTerms
  rw [hfixed, hcount]
  exact map_termOf_octets ts [m, n, k] rest

/-- The encoding of an entry reads back (R11, R12, R185). -/
structure ReadsBack (e : List Byte) (x : Entry) : Prop where
  length : entryLength e = e.length
  fields : entryFieldsOk e = true
  shape : entryShapeOk e = true
  entry : entryOf e = x

theorem readsBack_off : ReadsBack (Entry.off).octets .off := ⟨rfl, rfl, rfl, rfl⟩

theorem readsBack_fixed (x : Half) (q : FixedQual) : ReadsBack (Entry.fixed x q).octets (.fixed x q) := by
  have hx : x.extractLsb' 8 8 ++ x.extractLsb' 0 8 = x := halfAt_of_drop_eq (q := octets x) (i := 0) (rest := []) rfl
  have hvalue : halfAt (Entry.fixed x q).octets 3 = x := by cases q <;> exact hx
  have hmode : entryMode (Entry.fixed x q).octets = 3 := by
    cases q
    · exact (entryMode_cons 0x30 _).trans rfl
    · exact (entryMode_cons 0x31 _).trans rfl
  have hqual : entryQual (Entry.fixed x q).octets = match q with | .idle => 0 | .data => 1 := by
    cases q
    · exact (entryQual_cons 0x30 _).trans rfl
    · exact (entryQual_cons 0x31 _).trans rfl
  have hcount : entryTermCount (Entry.fixed x q).octets = 0 := by cases q <;> rfl
  have hmark : entryAltMark (Entry.fixed x q).octets = 0 := by cases q <;> rfl
  have hterms : entryTerms (Entry.fixed x q).octets = [] := by simp [entryTerms, hcount]
  have hlength : (Entry.fixed x q).octets.length = 5 := by cases q <;> rfl
  refine ⟨?_, ?_, ?_, ?_⟩
  · simp [hlength, entryLength, fixedLength, hmode, hcount, hmark]
  · cases q <;> simp [entryFieldsOk, hmode, hcount, hmark, hterms, hqual]
  · simp [entryShapeOk, hmode, hcount, hmark]
  · cases q <;> simp [entryOf, hmode, hterms, hqual, hvalue]

theorem readsBack_route (t : Term) : ReadsBack (Entry.route t none).octets (.route t none) := by
  have hterms : entryTerms (Entry.route t none).octets = [some t] :=
    entryTerms_octets (m := 0x10) (n := 1) (k := 0) (ts := [t]) [] (by decide) rfl
  have hmode : entryMode (Entry.route t none).octets = 1 := (entryMode_cons 0x10 _).trans rfl
  have hmark : entryAltMark (Entry.route t none).octets = 0 := rfl
  have hcount : entryTermCount (Entry.route t none).octets = 1 := rfl
  have hentry : entryOf (Entry.route t none).octets = .route t none := by
    simp [entryOf, hterms, hmode, hmark]
  refine ⟨?_, ?_, ?_, hentry⟩
  · rw [show (Entry.route t none).octets.length = 5 from rfl]
    simp [entryLength, fixedLength, hmode, hmark, hcount]
  · simp [entryFieldsOk, hterms, hmode, hmark, hcount]
  · simp [entryShapeOk, hentry, hmode, hcount]

theorem readsBack_protected {t : Term} {a : Alternate} (hwf : (Entry.route t (some a)).wellFormed = true) :
    ReadsBack (Entry.route t (some a)).octets (.route t (some a)) := by
  simp only [Entry.wellFormed, Bool.and_eq_true, decide_eq_true_eq] at hwf
  obtain ⟨⟨⟨hpos, hle⟩, hwait⟩, hinput⟩ := hwf
  have hterms : entryTerms (Entry.route t (some a)).octets = [some t] :=
    entryTerms_octets (m := 0x10) (n := 1) (k := 1) (ts := [t])
      (a.term.octets ++ [BitVec.ofNat 8 a.holdOff, BitVec.ofNat 8 a.waitToRestore]) (by decide) rfl
  have hmode : entryMode (Entry.route t (some a)).octets = 1 := (entryMode_cons 0x10 _).trans rfl
  have hmark : entryAltMark (Entry.route t (some a)).octets = 1 := rfl
  have hcount : entryTermCount (Entry.route t (some a)).octets = 1 := rfl
  have hplace : altPlace (Entry.route t (some a)).octets = 5 := by simp [altPlace, fixedLength, hmode, hcount]
  have halternate : entryAlternate (Entry.route t (some a)).octets = some a := by
    have hhold : (byteAt (Entry.route t (some a)).octets (5 + 2)).toNat = a.holdOff :=
      toNat_ofNat_of_lt (n := a.holdOff) (by omega)
    have hrestore : (byteAt (Entry.route t (some a)).octets (5 + 3)).toNat = a.waitToRestore :=
      toNat_ofNat_of_lt (n := a.waitToRestore) (by omega)
    have hterm : termOf (byteAt (Entry.route t (some a)).octets 5) (byteAt (Entry.route t (some a)).octets (5 + 1))
        = some a.term := termOf_octets a.term
    simp only [entryAlternate, hplace, hhold, hrestore, hterm]
    rw [if_pos ⟨hpos, hle⟩]
    rfl
  have hentry : entryOf (Entry.route t (some a)).octets = .route t (some a) := by
    simp [entryOf, hterms, hmode, hmark, halternate]
  refine ⟨?_, ?_, ?_, hentry⟩
  · rw [show (Entry.route t (some a)).octets.length = 9 from rfl]
    simp [entryLength, fixedLength, hmode, hmark, hcount]
  · simp [entryFieldsOk, hterms, hmode, hmark, hcount, halternate]
  · simp [entryShapeOk, hentry, hmode, hcount, hinput]

theorem length_flatMap_octets (ts : List Term) : (ts.flatMap Term.octets).length = 2 * ts.length := by
  rw [List.length_flatMap, show (fun t : Term => t.octets.length) = fun _ => 2 from rfl, List.map_const', List.sum_replicate,
    smul_eq_mul, Nat.mul_comm]

theorem readsBack_mix {ts : List Term} (hwf : (Entry.mix ts).wellFormed = true) :
    ReadsBack (Entry.mix ts).octets (.mix ts) := by
  simp only [Entry.wellFormed, Bool.and_eq_true, decide_eq_true_eq] at hwf
  obtain ⟨⟨htwo, hfour⟩, hdistinct⟩ := hwf
  have hn : (BitVec.ofNat 8 ts.length).toNat = ts.length := toNat_ofNat_of_lt (by omega)
  have hterms : entryTerms (Entry.mix ts).octets = ts.map some := by
    have := entryTerms_octets (m := 0x20) (n := BitVec.ofNat 8 ts.length) (k := 0) (ts := ts) [] (by decide) hn
    rwa [List.append_nil] at this
  have hmode : entryMode (Entry.mix ts).octets = 2 := (entryMode_cons 0x20 _).trans rfl
  have hmark : entryAltMark (Entry.mix ts).octets = 0 := rfl
  have hcount : entryTermCount (Entry.mix ts).octets = ts.length := hn
  have hentry : entryOf (Entry.mix ts).octets = .mix ts := by
    simp [entryOf, hterms, hmode]
  refine ⟨?_, ?_, ?_, hentry⟩
  · have hlen : (Entry.mix ts).octets.length = 3 + 2 * ts.length := by
      simp only [Entry.octets, List.length_append, length_flatMap_octets]
      rfl
    rw [hlen]
    simp [entryLength, fixedLength, hmode, hmark, hcount]
  · simp [entryFieldsOk, hterms, hmode, hmark, hcount, hfour]
  · simp [entryShapeOk, hterms, hmode, hmark, hcount, htwo, hfour, hdistinct]

theorem readsBack {x : Entry} (hwf : x.wellFormed = true) : ReadsBack x.octets x := by
  cases x with
  | off => exact readsBack_off
  | route t alternate =>
    cases alternate with
    | none => exact readsBack_route t
    | some a => exact readsBack_protected hwf
  | mix ts => exact readsBack_mix hwf
  | fixed sample q => exact readsBack_fixed sample q

theorem length_entry_octets {x : Entry} (hwf : x.wellFormed = true) : 3 ≤ x.octets.length ∧ x.octets.length ≤ 11 := by
  cases x with
  | off => decide
  | route t alternate =>
    cases alternate with
    | none => exact ⟨Nat.le_add_right 3 2, Nat.le_add_right 5 6⟩
    | some a => exact ⟨Nat.le_add_right 3 6, Nat.le_add_right 9 2⟩
  | mix ts =>
    simp only [Entry.wellFormed, Bool.and_eq_true, decide_eq_true_eq] at hwf
    obtain ⟨⟨-, hfour⟩, -⟩ := hwf
    simp only [Entry.octets, List.length_append, length_flatMap_octets, List.length_cons, List.length_nil]
    omega
  | fixed sample q =>
    cases q <;> exact ⟨Nat.le_add_right 3 2, Nat.le_add_right 5 6⟩

end Sys2Proof.Machine

open Sys2Proof Sys2Proof.Machine Sys2Proof.Machine.State

/-- Settles O12: the straps octet is the number its fields spell. -/
theorem identifyReportsTheStraps : Obligations.IdentifyReportsTheStraps := by
  intro s h p hs
  refine ⟨fun hp => ?answered, fun hp => exec_answered hs .identify (if_pos hp)⟩
  case answered =>
    subst hp
    refine exec_answered hs .identify (s.doIdentify_nil.trans ?_)
    have hunit : BitVec.zeroExtend 8 s.straps.unit = BitVec.ofNat 8 s.straps.unit.toNat := by
      refine ofNat_toNat_eq ?_
      rw [BitVec.zeroExtend, BitVec.toNat_setWidth]
      exact Nat.mod_eq_of_lt (by have := s.straps.unit.isLt; omega)
    have hstraps : strapsOctet s.straps =
        BitVec.ofNat 8 (64 * s.straps.mtrunk.val + 16 * s.straps.rate.toNat + 8 * s.straps.supv.toNat) := by
      refine ofNat_toNat_eq ?_
      simp only [strapsOctet, toNat_append_eq_add, BitVec.toNat_ofNat, BitVec.toNat_ofBool]
      omega
    rw [hunit, hstraps]

/-- Settles O18: by the mode of the entry (`readsBack`). -/
theorem entryEncodingReadsBack : Obligations.EntryEncodingReadsBack := by
  intro e hwf
  obtain ⟨hlength, hfields, hshape, hentry⟩ := readsBack hwf
  exact ⟨hlength, hfields, hshape, hentry, length_entry_octets hwf⟩

/-- Settles O15: the encoding reads back, so that every check passes. -/
theorem writeEntryReplacesTheEntry : Obligations.WriteEntryReplacesTheEntry := by
  intro s h b i e hs hwf hreserved hterms hlive hfrozen hheld
  obtain ⟨hlength, hfields, hshape, hentry⟩ := readsBack hwf
  refine exec_answered hs .writeEntry
    ((doWriteEntry_of_fields (p := b.code :: BitVec.ofNat 8 i.val :: e.octets) (b := b) (i := i) ?_ b.ofCode_code (indexOf_ofNat i) hfields).trans ?_)
  · show e.octets.length + 2 = 2 + entryLength e.octets
    rw [hlength, Nat.add_comm]
  · have hnames : s.namesReserved i e = false := by
      rw [← Bool.not_eq_true, namesReserved_iff]
      rintro (hi | ⟨t, ht, hinput⟩)
      · exact hreserved hi
      · exact hterms t ht hinput
    simp only [List.drop_succ_cons, List.drop_zero, hshape, hentry, hnames,
      bankGuarded_of_free (bankRefusal_of_free hlive hfrozen hheld)]
    rfl

/-- Settles O17: READ_ENTRY's checks, and the entry it finds. -/
theorem readEntryReturnsTheEntry : Obligations.ReadEntryReturnsTheEntry := by
  intro s h p hs
  refine ⟨fun hlen => exec_answered hs .readEntry (doReadEntry_of_length hlen), fun hlen hrange => ?range,
    fun b i hlen hb hi => ?answered⟩
  case range =>
    exact exec_answered hs .readEntry (doReadEntry_of_range hlen (hrange.imp selectBank_eq_none indexOf_eq_none))
  case answered =>
    have hselect : s.selectBank (byteAt p 0) = some b := by
      rcases hb with hb | ⟨hb, rfl⟩ <;> rw [hb]
      · exact s.selectBank_code b
      · exact s.selectBank_live
    refine exec_answered hs .readEntry ((doReadEntry_of_fields hlen hselect (indexOf_eq_some hi)).trans ?_)
    rw [mark_copyInto]
    rfl

/-- Settles O19: CLEAR_BANK's checks in order. -/
theorem clearBankEmptiesTheBank : Obligations.ClearBankEmptiesTheBank := by
  intro s h p hs
  refine ⟨fun hlen => exec_answered hs .clearBank (doClearBank_of_length hlen),
    fun hlen hrange => exec_answered hs .clearBank (doClearBank_of_range hlen hrange), fun b hp => ?bank⟩
  subst hp
  exact ⟨fun hlive => exec_answered hs .clearBank (doClearBank_of_refusal (bankRefusal_of_live hlive)),
    fun hlive hb hfrozen =>
      exec_answered hs .clearBank (doClearBank_of_refusal (bankRefusal_of_frozen hlive hb hfrozen)),
    fun hlive hfrozen hheld =>
      exec_answered hs .clearBank (doClearBank_of_refusal (bankRefusal_of_held hlive hfrozen hheld)),
    fun hlive hfrozen hheld =>
      exec_answered hs .clearBank (doClearBank_of_free (bankRefusal_of_free hlive hfrozen hheld))⟩

end

section
/-!
WRITE_ENTRY's checks on the octets (R10 to R16, R185): the octet-by-octet conditions and the decoded ones are the same.
-/

namespace Sys2Proof.Machine

open State

variable {e : List Byte}

/-! ### Places and codes of an encoded entry -/

theorem entryMode_eq (e : List Byte) : entryMode e = modeIn e := by
  unfold entryMode modeIn
  rw [BitVec.extractLsb'_toNat, Nat.shiftRight_eq_div_pow]
  have := (byteAt e 0).isLt
  omega

theorem fixedLength_of_mode (h : modeIn e ≠ 3) : fixedLength e = 0 := if_neg (by rwa [entryMode_eq])

theorem termPlace_eq (e : List Byte) (k : Nat) : 3 + fixedLength e + 2 * k = termPlace e k := by
  unfold fixedLength termPlace
  rw [entryMode_eq]
  split <;> rfl

theorem termPlace_of_mode (h : modeIn e ≠ 3) (k : Nat) : termPlace e k = 3 + 2 * k := by
  unfold termPlace
  rw [if_neg h]

theorem entryLength_eq (e : List Byte) : entryLength e = declaredLength e := by
  unfold entryLength declaredLength
  rw [← termPlace_eq]
  rfl

theorem altPlace_eq (e : List Byte) : altPlace e = termPlace e (byteAt e 1).toNat := termPlace_eq e _

theorem entryQual_eq (e : List Byte) : (entryQual e).toNat = (byteAt e 0).toNat % 4 := toNat_extract_low _ 2

theorem entryAltMark_le_iff (e : List Byte) :
    (byteAt e 2).toNat ≤ 1 ↔ byteAt e 2 = 0 ∨ byteAt e 2 = 1 := by
  simp only [← BitVec.toNat_inj]
  show _ ↔ (byteAt e 2).toNat = 0 ∨ (byteAt e 2).toNat = 1
  omega

/-! ### Terms -/

/-- A pair of octets stands for at most one term, the one `termOf` gives. -/
theorem termOf_eq_some_iff {a b : Byte} {t : Term} :
    termOf a b = some t ↔
      a.toNat = 32 * t.trunk.val + t.slot.val ∧ b.toNat / 128 = t.invert.toNat ∧ b.toNat % 16 = t.shift.val := by
  refine ⟨fun h => ?_, fun ⟨ha, hinvert, hshift⟩ => termOf_eq_some ha hinvert hshift⟩
  unfold termOf at h
  split at h
  next =>
    cases h
    have hhigh := toNat_extract_high a
    have hlow := toNat_extract_low a 5
    have hnibble := toNat_extract_low b 4
    refine ⟨?_, ?_, hnibble⟩
    · show a.toNat = 32 * (a.extractLsb' 5 3).toNat + (a.extractLsb' 0 5).toNat
      omega
    · rw [getLsbD_seven]
      have := b.isLt
      rcases Nat.lt_or_ge b.toNat 128 with hlt | hge
      · rw [Nat.div_eq_of_lt hlt]
        rfl
      · rw [show b.toNat / 128 = 1 by omega]
        rfl
  next => exact nomatch h

theorem standsForTerm_iff {i : Nat} {t : Term} :
    standsForTerm e i t ↔ termOf (byteAt e i) (byteAt e (i + 1)) = some t :=
  termOf_eq_some_iff.symm

theorem isSome_termOf_iff (e : List Byte) (i : Nat) :
    (termOf (byteAt e i) (byteAt e (i + 1))).isSome = true ↔ termInRange e i := by
  have hhigh := toNat_extract_high (byteAt e i)
  have hnibble := toNat_extract_low (byteAt e (i + 1)) 4
  unfold termOf termInRange
  split <;> simp only [Option.isSome_some, Option.isSome_none, Bool.false_eq_true, true_iff, false_iff] <;> omega

theorem entryTerms_eq (e : List Byte) :
    entryTerms e = (List.range (byteAt e 1).toNat).map fun k =>
      termOf (byteAt e (termPlace e k)) (byteAt e (termPlace e k + 1)) := by
  unfold entryTerms entryTermCount
  refine List.map_congr_left fun k _ => ?_
  rw [← termPlace_eq, show 4 + fixedLength e + 2 * k = 3 + fixedLength e + 2 * k + 1 by omega]

theorem all_isSome_entryTerms_iff (e : List Byte) :
    (entryTerms e).all Option.isSome = true ↔ ∀ k < (byteAt e 1).toNat, termInRange e (termPlace e k) := by
  rw [entryTerms_eq]
  simp only [List.all_map, List.all_eq_true, List.mem_range, Function.comp_apply, isSome_termOf_iff]

theorem map_some_filterMap {l : List (Option Term)} (h : ∀ x ∈ l, x.isSome = true) :
    (l.filterMap id).map some = l := by
  induction l with
  | nil => rfl
  | cons x l ih =>
    obtain ⟨t, rfl⟩ := Option.isSome_iff_exists.mp (h x List.mem_cons_self)
    exact congrArg (some t :: ·) (ih fun y hy => h y (List.mem_cons_of_mem _ hy))

/-- The terms of an encoding whose fields are in range. -/
theorem exists_terms (h : ∀ k < (byteAt e 1).toNat, termInRange e (termPlace e k)) :
    ∃ ts : List Term, entryTerms e = ts.map some ∧ ts.length = (byteAt e 1).toNat
      ∧ ∀ (k : Nat) (hk : k < ts.length), standsForTerm e (termPlace e k) ts[k] := by
  have hall : ∀ x ∈ entryTerms e, x.isSome = true := List.all_eq_true.mp ((all_isSome_entryTerms_iff e).mpr h)
  have hsome : entryTerms e = ((entryTerms e).filterMap id).map some := (map_some_filterMap hall).symm
  have hlength : (entryTerms e).length = (byteAt e 1).toNat := by simp [entryTerms, entryTermCount]
  refine ⟨(entryTerms e).filterMap id, hsome, ?_, fun k hk => standsForTerm_iff.mpr ?_⟩
  · rw [← hlength]
    conv_rhs => rw [hsome]
    rw [List.length_map]
  · have hk' : k < (entryTerms e).length := by
      rw [hsome, List.length_map]
      exact hk
    have hget : (entryTerms e)[k] = some ((entryTerms e).filterMap id)[k] := by
      have := List.getElem_of_eq hsome hk'
      rwa [List.getElem_map] at this
    rw [← hget]
    simp only [entryTerms_eq, List.getElem_map, List.getElem_range]

theorem filterMap_some (ts : List Term) : (ts.map some).filterMap id = ts := by
  rw [List.filterMap_map]
  exact List.filterMap_some

/-- Two terms name one input slot when their first octets are equal. -/
theorem input_eq_iff {i j : Nat} {t u : Term} (ht : standsForTerm e i t) (hu : standsForTerm e j u) :
    t.input = u.input ↔ byteAt e i = byteAt e j := by
  obtain ⟨hi, -⟩ := ht
  obtain ⟨hj, -⟩ := hu
  rw [← BitVec.toNat_inj, hi, hj]
  simp only [Term.input, Prod.mk.injEq, Fin.ext_iff]
  omega

theorem distinctInputs_iff (ts : List Term) :
    distinctInputs ts = true ↔ ts.Pairwise fun t u => t.input ≠ u.input := by
  induction ts with
  | nil => simp [distinctInputs]
  | cons t ts ih =>
    simp only [distinctInputs, Bool.and_eq_true, ih, List.pairwise_cons, Bool.not_eq_true', List.any_eq_false, beq_iff_eq]
    exact and_congr ⟨fun h u hu heq => h u hu heq.symm, fun h u hu heq => h u hu heq.symm⟩ Iff.rfl

/-! ### Ranges (R11) -/

theorem isSome_entryAlternate_iff (e : List Byte) :
    (entryAlternate e).isSome = true ↔
      termInRange e (altPlace e) ∧ 1 ≤ (byteAt e (altPlace e + 2)).toNat ∧ (byteAt e (altPlace e + 2)).toNat ≤ 15 := by
  simp only [entryAlternate]
  split
  next h =>
    rw [Option.isSome_map, isSome_termOf_iff]
    exact ⟨fun hterm => ⟨hterm, h⟩, fun hterm => hterm.1⟩
  next h => exact iff_of_false nofun fun hterm => h hterm.2

theorem entryFieldsOk_iff (e : List Byte) : entryFieldsOk e = true ↔ fieldsInRange e := by
  simp only [entryFieldsOk, Bool.and_eq_true, Bool.or_eq_true, decide_eq_true_eq, and_assoc, ne_eq, ← imp_iff_not_or]
  rw [all_isSome_entryTerms_iff, isSome_entryAlternate_iff, altPlace_eq, entryMode_eq, entryQual_eq]
  exact Iff.rfl

/-! ### Structure (R12) -/

/-- The alternate of an encoding in range. -/
theorem exists_alternate (h : (entryAlternate e).isSome = true) :
    ∃ a, entryAlternate e = some a ∧ standsForTerm e (altPlace e) a.term
      ∧ (byteAt e (altPlace e + 2)).toNat = a.holdOff ∧ (byteAt e (altPlace e + 3)).toNat = a.waitToRestore := by
  obtain ⟨a, ha⟩ := Option.isSome_iff_exists.mp h
  refine ⟨a, ha, ?_⟩
  simp only [entryAlternate] at ha
  split at ha
  next =>
    obtain ⟨t, ht, rfl⟩ := Option.map_eq_some_iff.mp ha
    exact ⟨standsForTerm_iff.mpr ht, rfl, rfl⟩
  next => exact nomatch ha

theorem exists_singleton {ts : List Term} (h : ts.length = 1) : ∃ t, ts = [t] := List.length_eq_one_iff.mp h

/-- An encoded ROUTE: one term, and an alternate where its mark says so. -/
theorem route_cases (hf : fieldsInRange e) (hmode : modeIn e = 1) (hn : (byteAt e 1).toNat = 1) :
    ∃ t, standsForTerm e 3 t ∧
      (byteAt e 2 = 0 ∧ entryOf e = .route t none
        ∨ byteAt e 2 = 1 ∧ ∃ a, entryOf e = .route t (some a) ∧ standsForTerm e 5 a.term
            ∧ (byteAt e 7).toNat = a.holdOff ∧ (byteAt e 8).toNat = a.waitToRestore) := by
  obtain ⟨-, -, hmark, hterms, halternate, -⟩ := hf
  obtain ⟨ts, hts, hlength, hstands⟩ := exists_terms hterms
  obtain ⟨t, rfl⟩ := exists_singleton (hlength.trans hn)
  have hplace : altPlace e = 5 := by
    rw [altPlace_eq, termPlace_of_mode (by omega), hn]
  have hentry : entryOf e = .route t (if entryAltMark e = 1 then entryAlternate e else none) := by
    simp only [entryOf, entryMode_eq, hmode, hts, filterMap_some]
  refine ⟨t, ?_, ?_⟩
  · have := hstands 0 Nat.one_pos
    rwa [termPlace_of_mode (by omega)] at this
  · rcases (entryAltMark_le_iff e).mp hmark with h0 | h1
    · left
      refine ⟨h0, ?_⟩
      rw [hentry, entryAltMark, h0]
      rfl
    · right
      obtain ⟨a, ha, hterm, hhold, hwait⟩ := exists_alternate ((isSome_entryAlternate_iff e).mpr (altPlace_eq e ▸ halternate h1))
      rw [hplace] at hterm hhold hwait
      refine ⟨h1, a, ?_, hterm, hhold, hwait⟩
      rw [hentry, entryAltMark, h1, ha]
      rfl

/-- An encoded MIX: the terms declared. -/
theorem mix_terms (hf : fieldsInRange e) (hmode : modeIn e = 2) :
    ∃ ts : List Term, entryOf e = .mix ts ∧ entryTerms e = ts.map some ∧ ts.length = (byteAt e 1).toNat
      ∧ ∀ (k : Nat) (hk : k < ts.length), standsForTerm e (3 + 2 * k) ts[k] := by
  obtain ⟨-, -, -, hterms, -, -⟩ := hf
  obtain ⟨ts, hts, hlength, hstands⟩ := exists_terms hterms
  refine ⟨ts, ?_, hts, hlength, fun k hk => ?_⟩
  · simp only [entryOf, entryMode_eq, hmode, hts, filterMap_some]
  · have := hstands k hk
    rwa [termPlace_of_mode (by omega)] at this

theorem entryOf_off (hmode : modeIn e = 0) : entryOf e = .off := by
  simp only [entryOf, entryMode_eq, hmode]

theorem entryOf_fixed (hmode : modeIn e = 3) :
    entryOf e = .fixed (halfAt e 3) (if entryQual e = 0 then .idle else .data) := by
  simp only [entryOf, entryMode_eq, hmode]

/-- The terms of a MIX name distinct input slots exactly when their first octets differ. -/
theorem distinctInputs_iff_octets {ts : List Term}
    (hstands : ∀ (k : Nat) (hk : k < ts.length), standsForTerm e (3 + 2 * k) ts[k]) :
    distinctInputs ts = true ↔ ∀ j k, j < k → k < ts.length → byteAt e (3 + 2 * j) ≠ byteAt e (3 + 2 * k) := by
  rw [distinctInputs_iff, List.pairwise_iff_getElem]
  refine ⟨fun h j k hjk hk heq => ?_, fun h j k hj hk hjk heq => ?_⟩
  · exact h j k (hjk.trans hk) hk hjk ((input_eq_iff (hstands j _) (hstands k hk)).mpr heq)
  · exact h j k hjk hk ((input_eq_iff (hstands j hj) (hstands k hk)).mp heq)

theorem entryShapeOk_iff (hf : fieldsInRange e) : entryShapeOk e = true ↔ shapeHolds e := by
  obtain ⟨hmode, -⟩ := id hf
  have hplain : entryAltMark e = byteAt e 2 := rfl
  have hcount : entryTermCount e = (byteAt e 1).toNat := rfl
  rcases (by omega : modeIn e = 0 ∨ modeIn e = 1 ∨ modeIn e = 2 ∨ modeIn e = 3) with h | h | h | h
  · simp [entryShapeOk, shapeHolds, entryMode_eq, h, ← hplain, ← hcount]
  · have hroute : shapeHolds e ↔ (byteAt e 1).toNat = 1 ∧ (byteAt e 2 = 1 → byteAt e 3 ≠ byteAt e 5) := by
      simp [shapeHolds, h]
    simp only [entryShapeOk, entryMode_eq, h, Bool.and_eq_true, decide_eq_true_eq]
    rw [hroute, hcount]
    refine and_congr_right fun hn => ?_
    obtain ⟨t, ht, ⟨hmark, hentry⟩ | ⟨hmark, a, hentry, ha, -⟩⟩ := route_cases hf h hn
    · simp [hentry, hmark]
    · simp only [hentry, hmark, true_imp_iff, decide_eq_true_eq, ne_eq, ← input_eq_iff ht ha]
      exact not_congr eq_comm
  · obtain ⟨ts, -, hts, hlength, hstands⟩ := mix_terms hf h
    have hdistinct := distinctInputs_iff_octets hstands
    rw [hlength] at hdistinct
    simp only [entryShapeOk, entryMode_eq, h, Bool.and_eq_true, decide_eq_true_eq, hts, filterMap_some, hdistinct,
      and_assoc]
    simp [shapeHolds, h, hplain, hcount]
  · simp [entryShapeOk, shapeHolds, entryMode_eq, h, ← hplain, ← hcount]

/-! ### The entry the octets stand for (R185) -/

theorem entryQual_eq_zero_iff (e : List Byte) : entryQual e = 0 ↔ (byteAt e 0).toNat % 4 = 0 := by
  rw [← entryQual_eq, ← BitVec.toNat_inj]
  rfl

/-- Octets in range and of the right shape stand for the decoded entry. -/
theorem standsFor_entryOf (hf : fieldsInRange e) (hs : shapeHolds e) : standsFor e (entryOf e) := by
  obtain ⟨hmode, -, -, -, -, hqual⟩ := id hf
  obtain ⟨-, hone, -, -⟩ := hs
  rcases (by omega : modeIn e = 0 ∨ modeIn e = 1 ∨ modeIn e = 2 ∨ modeIn e = 3) with h | h | h | h
  · rw [entryOf_off h]
    exact h
  · obtain ⟨t, ht, ⟨hmark, hentry⟩ | ⟨hmark, a, hentry, ha, hhold, hwait⟩⟩ := route_cases hf h (hone h).1
    · rw [hentry]
      exact ⟨h, hmark, ht⟩
    · rw [hentry]
      exact ⟨h, hmark, ht, ha, hhold, hwait⟩
  · obtain ⟨ts, hentry, -, hlength, hstands⟩ := mix_terms hf h
    rw [hentry]
    exact ⟨h, hlength.symm, hstands⟩
  · have hle := hqual h
    rw [entryOf_fixed h]
    refine ⟨h, rfl, ?_⟩
    by_cases hq : entryQual e = 0
    · rw [if_pos hq]
      exact (entryQual_eq_zero_iff e).mp hq
    · rw [if_neg hq]
      have := mt (entryQual_eq_zero_iff e).mpr hq
      show (byteAt e 0).toNat % 4 = 1
      omega

theorem standsForTerm_unique {i : Nat} {t u : Term} (ht : standsForTerm e i t) (hu : standsForTerm e i u) : t = u :=
  Option.some_injective _ ((standsForTerm_iff.mp ht).symm.trans (standsForTerm_iff.mp hu))

theorem standsFor_mode {x : Entry} (h : standsFor e x) :
    modeIn e = match x with | .off => 0 | .route _ _ => 1 | .mix _ => 2 | .fixed _ _ => 3 := by
  cases x with
  | off => exact h
  | route t alternate =>
    cases alternate with
    | none => exact h.1
    | some a => exact h.1
  | mix ts => exact h.1
  | fixed sample q => exact h.1

theorem route_unique {t u : Term} {a b : Option Alternate} (hx : standsFor e (.route t a))
    (hy : standsFor e (.route u b)) : Entry.route t a = .route u b := by
  cases a with
  | none =>
    obtain ⟨-, hmark, ht⟩ := hx
    cases b with
    | none =>
      obtain ⟨-, -, hu⟩ := hy
      rw [standsForTerm_unique ht hu]
    | some b =>
      obtain ⟨-, hmark', -⟩ := hy
      exact nomatch hmark.symm.trans hmark'
  | some a =>
    obtain ⟨-, hmark, ht, ha, hhold, hwait⟩ := hx
    cases b with
    | none =>
      obtain ⟨-, hmark', -⟩ := hy
      exact nomatch hmark.symm.trans hmark'
    | some b =>
      obtain ⟨-, -, hu, hb, hhold', hwait'⟩ := hy
      obtain ⟨term, hold, wait⟩ := a
      obtain ⟨term', hold', wait'⟩ := b
      dsimp only at ha hb hhold hhold' hwait hwait'
      rw [standsForTerm_unique ht hu, standsForTerm_unique ha hb, ← hhold, hhold', ← hwait, hwait']

theorem mix_unique {ts us : List Term} (hx : standsFor e (.mix ts)) (hy : standsFor e (.mix us)) : ts = us := by
  obtain ⟨-, hlength, hts⟩ := hx
  obtain ⟨-, hlength', hus⟩ := hy
  exact List.ext_getElem (hlength.symm.trans hlength') fun k hk hk' => standsForTerm_unique (hts k hk) (hus k hk')

theorem fixed_unique {x y : Half} {q r : FixedQual} (hx : standsFor e (.fixed x q)) (hy : standsFor e (.fixed y r)) :
    Entry.fixed x q = .fixed y r := by
  obtain ⟨-, rfl, hq⟩ := hx
  obtain ⟨-, rfl, hr⟩ := hy
  cases q <;> cases r
  · rfl
  · exact nomatch hq.symm.trans hr
  · exact nomatch hq.symm.trans hr
  · rfl

/-- Octets stand for at most one entry. -/
theorem standsFor_unique {x y : Entry} (hx : standsFor e x) (hy : standsFor e y) : x = y := by
  have hmode := (standsFor_mode hx).symm.trans (standsFor_mode hy)
  cases x with
  | off =>
    cases y with
    | off => rfl
    | route | mix | fixed => exact nomatch hmode
  | route t a =>
    cases y with
    | route u b => exact route_unique hx hy
    | off | mix | fixed => exact nomatch hmode
  | mix ts =>
    cases y with
    | mix us => rw [mix_unique hx hy]
    | off | route | fixed => exact nomatch hmode
  | fixed sample q =>
    cases y with
    | fixed sample' q' => exact fixed_unique hx hy
    | off | route | mix => exact nomatch hmode

end Sys2Proof.Machine

open Sys2Proof Sys2Proof.Machine Sys2Proof.Machine.State

/-- Settles O16: the conditions on the octets are the model's own checks, in the same order. -/
theorem writeEntryChecksInOrder : Obligations.WriteEntryChecksInOrder := by
  refine ⟨fun s h p hs => ?checks, fun e hf hshape => ⟨entryOf e, standsFor_entryOf hf hshape⟩⟩
  intro e
  have hdeclared : declaredLength e = entryLength (p.drop 2) := (entryLength_eq e).symm
  rw [hdeclared]
  refine ⟨fun hlen => exec_answered hs .writeEntry (doWriteEntry_of_length hlen), fun hlen hrange => ?range,
    fun b i hlen hb hi hf => ?fields⟩
  case range =>
    refine exec_answered hs .writeEntry (doWriteEntry_of_range hlen ?_)
    refine hrange.imp BankId.ofCode_eq_none (Or.imp indexOf_eq_none fun hf => ?_)
    rw [← Bool.not_eq_true, entryFieldsOk_iff]
    exact hf
  case fields =>
    have hdo := doWriteEntry_of_fields (s := s) hlen (hb ▸ b.ofCode_code) (indexOf_eq_some hi) ((entryFieldsOk_iff e).mpr hf)
    refine ⟨fun hshape => ?shape, fun x hshape hx => ?entry⟩
    case shape =>
      refine exec_answered hs .writeEntry (hdo.trans (if_pos ?_))
      rw [Bool.not_eq_true', ← Bool.not_eq_true, entryShapeOk_iff hf]
      exact hshape
    case entry =>
      obtain rfl := standsFor_unique hx (standsFor_entryOf hf hshape)
      have hok : entryShapeOk e = true := (entryShapeOk_iff hf).mpr hshape
      rw [hok, Bool.not_true, if_neg nofun] at hdo
      refine ⟨fun hnames => ?reserved, fun hnames => ?bank⟩
      case reserved =>
        exact exec_answered hs .writeEntry (hdo.trans (if_pos ((s.namesReserved_iff i _).mpr hnames)))
      case bank =>
        have hfree : ¬ s.namesReserved i (entryOf e) = true := by
          rw [namesReserved_iff]
          rintro (h | ⟨t, ht, hinput⟩)
          · exact hnames.1 h
          · exact hnames.2 t ht hinput
        rw [if_neg hfree] at hdo
        refine ⟨fun hlive => ?_, fun hlive hF hfrozen => ?_, fun hlive hfrozen hheld => ?_, fun hlive hfrozen hheld => ?_⟩
        · exact exec_answered hs .writeEntry (hdo.trans (bankGuarded_of_refusal (bankRefusal_of_live hlive) _))
        · exact exec_answered hs .writeEntry (hdo.trans (bankGuarded_of_refusal (bankRefusal_of_frozen hlive hF hfrozen) _))
        · exact exec_answered hs .writeEntry (hdo.trans (bankGuarded_of_refusal (bankRefusal_of_held hlive hfrozen hheld) _))
        · exact exec_answered hs .writeEntry (hdo.trans (bankGuarded_of_free (bankRefusal_of_free hlive hfrozen hheld) _))

end

section
/-!
The requests to the bank controller and to the protection unit, and the copy engine's step (R6, R22, R56 to R59, R63 to
R82, R167).
-/

namespace Sys2Proof.Machine

open State

theorem ProtCommand.ofCode_code (c : ProtCommand) : ofCode c.code = some c := by cases c <;> rfl

/-- The model reads a command octet that names no command as NONE: the last branch of `ofCode` is the command `none`. -/
theorem ProtCommand.ofCode_of_lt {x : Byte} (h : 2 < x.toNat) : ofCode x = some .none := by
  unfold ofCode
  rw [if_neg (ne_of_toNat_lt (c := 0) (Nat.zero_lt_of_lt h)), if_neg (ne_of_toNat_lt (c := 1) (Nat.lt_of_succ_lt h)),
    if_neg (ne_of_toNat_lt (c := 2) h)]

namespace State

variable {s : State} {p : List Byte} {r : Request}

/-! ### The activation window (R65) -/

theorem resolveFrame_eq (s : State) (p : List Byte) : s.resolveFrame (byteAt p 0 == 1) (halfAt p 1) = namedFrame s p := by
  unfold resolveFrame namedFrame
  exact if_congr beq_iff_eq rfl rfl

theorem frameAhead_iff (s : State) (n : Half) : s.frameAhead n = true ↔ inWindow s n := by
  simp only [frameAhead, inWindow, Bool.and_eq_true, decide_eq_true_eq]

theorem isSome_operation (h : s.operation ≠ none) : s.operation.isSome = true := Option.isSome_iff_ne_none.mpr h

theorem not_isSome_operation (h : s.operation = none) : ¬ s.operation.isSome = true := by simp [h]

/-! ### SWITCH, RESUME and COPY (R66, R67, R71, R73, R74) -/

/-- The edit count a SWITCH expects of the shadow, if it names one (R66). -/
def expectedEdit (p : List Byte) : Option Half := if byteAt p 3 = 1 then some (halfAt p 4) else none

theorem doSwitch_of_length (h : r.payload.length ≠ 6) : s.doSwitch r = refuse s .badLength := if_pos h

theorem doSwitch_of_marks (hlen : r.payload.length = 6) (h : 1 < (byteAt r.payload 0).toNat ∨ 1 < (byteAt r.payload 3).toNat) :
    s.doSwitch r = refuse s .badField := by
  refine (if_neg (not_not_intro hlen)).trans (if_pos ?_)
  rw [Bool.not_eq_true', Bool.and_eq_false_iff, not_markOk_iff, not_markOk_iff]
  exact h

/-- The checks that follow those on length and marks. -/
theorem doSwitch_of_fields (hlen : r.payload.length = 6) (h0 : (byteAt r.payload 0).toNat ≤ 1)
    (h3 : (byteAt r.payload 3).toNat ≤ 1) :
    s.doSwitch r =
      if s.operation.isSome then refuse s .opBusy
      else if !s.frameAhead (namedFrame s r.payload) then refuse s .tooLate
      else if (expectedEdit r.payload).isSome ∧ expectedEdit r.payload ≠ some (s.bank s.shadowBank).editCount then
        ⟨.editMismatch, octets (s.bank s.shadowBank).editCount, s⟩
      else
        ⟨.accepted, octets (namedFrame s r.payload) ++ octets (s.bank s.shadowBank).editCount,
          s.withOperation (some (.switch r.seq (namedFrame s r.payload) (expectedEdit r.payload)))⟩ := by
  have hmarks : ¬ (!(markOk (byteAt r.payload 0) && markOk (byteAt r.payload 3))) = true := by
    simp [(markOk_iff _).mpr h0, (markOk_iff _).mpr h3]
  rw [← resolveFrame_eq]
  exact (if_neg (not_not_intro hlen)).trans (if_neg hmarks)

theorem doResume_of_length (h : r.payload.length ≠ 3) : s.doResume r = refuse s .badLength := if_pos h

theorem doResume_of_mark (hlen : r.payload.length = 3) (h : 1 < (byteAt r.payload 0).toNat) :
    s.doResume r = refuse s .badField := by
  refine (if_neg (not_not_intro hlen)).trans (if_pos ?_)
  rw [Bool.not_eq_true', not_markOk_iff]
  exact h

theorem doResume_of_fields (hlen : r.payload.length = 3) (h0 : (byteAt r.payload 0).toNat ≤ 1) :
    s.doResume r =
      if s.operation.isSome then refuse s .opBusy
      else if !s.isLapsed then refuse s .state
      else if !s.frameAhead (namedFrame s r.payload) then refuse s .tooLate
      else
        ⟨.accepted, octets (namedFrame s r.payload) ++ octets (s.bank s.currentBank).editCount,
          s.withOperation (some (.resume r.seq (namedFrame s r.payload)))⟩ := by
  rw [← resolveFrame_eq]
  exact (if_neg (not_not_intro hlen)).trans (if_neg (by simp [(markOk_iff _).mpr h0]))

theorem doCopy_of_length (h : r.payload.length ≠ 2) : s.doCopy r = refuse s .badLength := if_pos h

theorem doCopy_of_banks {src dst : BankId} (hlen : r.payload.length = 2)
    (hsrc : BankId.ofCode (byteAt r.payload 0) = some src) (hdst : BankId.ofCode (byteAt r.payload 1) = some dst) :
    s.doCopy r =
      if src = dst then refuse s .badField
      else if s.operation.isSome then refuse s .opBusy
      else if dst = s.liveBank then refuse s .liveBank
      else if s.frozenBank dst then refuse s .frozen
      else ⟨.accepted, octets (s.bank src).editCount, s.withOperation (some (.copy r.seq src dst 0))⟩ := by
  simp only [doCopy]
  rw [if_neg (not_not_intro hlen), hsrc, hdst]

theorem doCopy_of_range (hlen : r.payload.length = 2)
    (h : 2 < (byteAt r.payload 0).toNat ∨ 2 < (byteAt r.payload 1).toNat ∨ byteAt r.payload 0 = byteAt r.payload 1) :
    s.doCopy r = refuse s .badField := by
  simp only [doCopy]
  rw [if_neg (not_not_intro hlen)]
  split
  next src dst hsrc hdst =>
    rcases h with h | h | h
    · exact nomatch (BankId.ofCode_eq_none h).symm.trans hsrc
    · exact nomatch (BankId.ofCode_eq_none h).symm.trans hdst
    · rw [h, hdst] at hsrc
      cases hsrc
      exact if_pos rfl
  next => rfl

/-! ### CANCEL (R78, R79) -/

theorem doCancel_idle (h : s.operation = none) : s.doCancel [] = refuse s .state := by
  unfold doCancel
  rw [if_neg (not_not_intro rfl), h]

theorem doCancel_pending {op : PendingOp} (h : s.operation = some op) :
    s.doCancel [] = ⟨.ok, op.payload (s.cancelEdit op), s.cancelOperation op⟩ := by
  unfold doCancel
  rw [if_neg (not_not_intro rfl), h]

/-! ### The copy engine (R22, R75, R76) -/

theorem setBank_setBank (s : State) (b : BankId) (v w : Bank) : (s.setBank b v).setBank b w = s.setBank b w := by
  cases b <;> rfl

theorem copyEngineStep_of_progress {seq : Byte} {src dst : BankId} {n : Nat} (h : s.operation = some (.copy seq src dst n))
    (hn : n < 128) :
    s.copyEngineStep =
      if n = 127 then (s.copyEntry src dst ⟨n, hn⟩).completeCopy seq src dst
      else (s.copyEntry src dst ⟨n, hn⟩).withOperation (some (.copy seq src dst (n + 1))) := by
  unfold copyEngineStep
  rw [h]
  exact dif_pos hn

theorem copyEngineStep_of_idle (h : ∀ seq src dst n, s.operation ≠ some (.copy seq src dst n)) : s.copyEngineStep = s := by
  unfold copyEngineStep
  split
  next heq => exact absurd heq (h _ _ _ _)
  next => rfl

/-- The last entry, with the edit count handed over. -/
theorem completeCopy_copyEntry {seq : Byte} {src dst : BankId} (hne : src ≠ dst) (i : Fin 128) :
    (s.copyEntry src dst i).completeCopy seq src dst =
      ((s.setBank dst ⟨(s.bank dst).entries.set i ((s.bank src).entries.get i), (s.bank src).editCount⟩).withOperation
        none).raise .copyDone (copyDetail false seq) := by
  unfold completeCopy copyEntry
  rw [bank_setBank_self, bank_setBank, if_neg hne, setBank_setBank]

theorem exec_copyStep (h : s.resetHeld = false) : exec .copyStep s = .next s.copyEngineStep := by
  show Host.Outcome.next (if s.resetHeld then s else s.copyEngineStep) = _
  rw [h]
  rfl

/-! ### Protection (R56 to R59) -/

theorem protectedAt_iff (s : State) (i : Fin 128) :
    s.protectedAt i = true ↔ i ≠ s.reserved ∧ ∃ t a, (s.bank s.liveBank).entries.get i = .route t (some a) := by
  rw [protectedAt, Bool.and_eq_true, bne_iff_ne, Entry.hasAlternate_iff]

theorem doReadProtection_of_length (h : p.length ≠ 1) : s.doReadProtection p = refuse s .badLength := if_pos h

theorem doReadProtection_of_range (hlen : p.length = 1) (h : 127 < (byteAt p 0).toNat) :
    s.doReadProtection p = refuse s .badField := by
  unfold doReadProtection
  rw [if_neg (not_not_intro hlen), indexOf_eq_none h]

theorem doReadProtection_of_index {i : Fin 128} (hlen : p.length = 1) (h : indexOf (byteAt p 0) = some i) :
    s.doReadProtection p = ⟨.ok, s.protectionPayload i, s⟩ := by
  unfold doReadProtection
  rw [if_neg (not_not_intro hlen), h]

theorem doProtectionCommand_of_fields {i : Fin 128} {c : ProtCommand} (hlen : p.length = 2)
    (hi : indexOf (byteAt p 0) = some i) (hc : ProtCommand.ofCode (byteAt p 1) = some c) :
    s.doProtectionCommand p =
      if i = s.reserved then refuse s .reservedSlot
      else if !((s.bank s.liveBank).entries.get i).hasAlternate then refuse s .badEntry
      else ⟨.ok, (s.commandRecord i c).protectionPayload i, s.commandRecord i c⟩ := by
  unfold doProtectionCommand
  rw [if_neg (not_not_intro hlen), hi, hc]

/-! ### The reset state, which no request has reached -/

theorem ready_reset (seq : Byte) (check : Half) : State.reset.Ready ⟨0, seq, check⟩ where
  released := rfl
  addressed := rfl
  processorIdle := rfl
  queueEmpty := rfl
  notCached := nofun

theorem reset_entries (b : BankId) (i : Fin 128) : (State.reset.bank b).entries.get i = .off := by
  rw [bank_cleared rfl, entries_cleared]

/-- Two answers to a request that leave one state but differ in status differ in the response cache (R144). -/
theorem answered_ne {h : ReqHeader} {k : ReqKind} {p : List Byte} {st st' : Status} (hunit : h.unit ≠ 15)
    (hcache : s.channel.cache = []) (hne : st ≠ st') : answered h k p st [] s ≠ answered h k p st' [] s := by
  have hunicast : (requestOf h k.code p).isBroadcast = false := by
    simpa [Request.isBroadcast, requestOf] using hunit
  have hcached (x : Status) : (complete (requestOf h k.code p) ⟨x, [], s⟩).channel.cache =
      [⟨h.seq, h.check, some (s.responseTo (requestOf h k.code p) x [])⟩] := by
    rw [complete_cache, hunicast, hcache]
    rfl
  intro heq
  have hsame := congrArg (fun t : State => t.channel.cache) (Host.Outcome.next.inj heq)
  simp only [hcached, responseTo, List.cons.injEq, CacheEntry.mk.injEq, Option.some.injEq, Message.mk.injEq] at hsame
  exact hne (by simpa using hsame)

/-! ### FREEZE_FALLBACK (R6, R167) -/

theorem doFreezeFallback_of_payload (h : p ≠ []) : s.doFreezeFallback p = refuse s .badLength := if_pos h

theorem doFreezeFallback_nil (s : State) :
    s.doFreezeFallback [] =
      if s.map.frozen then refuse s .state
      else if s.copyInto .f then refuse s .bankBusy
      else ⟨.ok, octets s.map.bankF.editCount, s.withMap { s.map with frozen := true }⟩ :=
  if_neg (not_not_intro rfl)

theorem copyInto_f_iff (s : State) : s.copyInto .f = true ↔ ∃ seq src n, s.operation = some (.copy seq src .f n) := by
  unfold copyInto
  cases s.operation with
  | none => simp
  | some op =>
    cases op with
    | switch => simp
    | resume => simp
    | copy seq src dst n =>
      refine ⟨fun h => ⟨seq, src, n, by rw [← beq_iff_eq.mp h]⟩, ?_⟩
      rintro ⟨_, _, _, h⟩
      cases h
      rfl

end State

end Sys2Proof.Machine

open Sys2Proof Sys2Proof.Machine Sys2Proof.Machine.State

/-- Settles O21: the checks of SWITCH in order. -/
theorem switchIsCheckedAndAccepted : Obligations.SwitchIsCheckedAndAccepted := by
  intro s h p hs n shadow expected
  refine ⟨fun hlen => exec_answered hs .switch (doSwitch_of_length hlen),
    fun hlen hmarks => exec_answered hs .switch (doSwitch_of_marks hlen hmarks), fun hlen h0 h3 => ?fields⟩
  have hdo : s.doSwitch (requestOf h ReqKind.switch.code p) = _ := doSwitch_of_fields hlen h0 h3
  refine ⟨fun hop => ?busy, fun hop hlate => ?late, fun hop hin hdiffers => ?mismatch, fun hop hin hagrees => ?accepted⟩
  case busy => exact exec_answered hs .switch (hdo.trans (if_pos (isSome_operation hop)))
  all_goals rw [if_neg (not_isSome_operation hop)] at hdo
  case late =>
    refine exec_answered hs .switch (hdo.trans (if_pos ?_))
    rw [Bool.not_eq_true', ← Bool.not_eq_true, frameAhead_iff]
    exact hlate
  all_goals
    have hahead : s.frameAhead (namedFrame s p) = true := (s.frameAhead_iff _).mpr hin
    rw [show (requestOf h ReqKind.switch.code p).payload = p from rfl, hahead, Bool.not_true, if_neg nofun] at hdo
  case mismatch =>
    obtain ⟨x, hx, hne⟩ := hdiffers
    refine exec_answered hs .switch (hdo.trans (if_pos ?_))
    rw [show expectedEdit p = some x from hx]
    exact ⟨rfl, fun heq => hne (Option.some_injective _ heq)⟩
  case accepted =>
    refine exec_answered hs .switch (hdo.trans (if_neg ?_))
    rintro ⟨hsome, hne⟩
    obtain ⟨x, hx⟩ := Option.isSome_iff_exists.mp hsome
    exact hne (hx.trans (congrArg some (hagrees x hx)))

/-- Settles O22: the checks of RESUME in order. -/
theorem resumeIsCheckedAndAccepted : Obligations.ResumeIsCheckedAndAccepted := by
  intro s h p hs n
  refine ⟨fun hlen => exec_answered hs .resume (doResume_of_length hlen),
    fun hlen hmark => exec_answered hs .resume (doResume_of_mark hlen hmark), fun hlen h0 => ?fields⟩
  have hdo : s.doResume (requestOf h ReqKind.resume.code p) = _ := doResume_of_fields hlen h0
  refine ⟨fun hop => ?busy, fun hop hlapsed => ?state, fun hop hlapsed hlate => ?late, fun hop hlapsed hin => ?accepted⟩
  case busy => exact exec_answered hs .resume (hdo.trans (if_pos (isSome_operation hop)))
  all_goals rw [if_neg (not_isSome_operation hop), hlapsed] at hdo
  case state => exact exec_answered hs .resume hdo
  all_goals rw [Bool.not_true, if_neg nofun] at hdo
  case late =>
    refine exec_answered hs .resume (hdo.trans (if_pos ?_))
    rw [Bool.not_eq_true', ← Bool.not_eq_true, frameAhead_iff]
    exact hlate
  case accepted =>
    refine exec_answered hs .resume (hdo.trans (if_neg ?_))
    rw [Bool.not_eq_true', Bool.not_eq_false, frameAhead_iff]
    exact hin

/-- Settles O23: the checks of COPY in order. -/
theorem copyIsCheckedAndAccepted : Obligations.CopyIsCheckedAndAccepted := by
  intro s h p hs
  refine ⟨fun hlen => exec_answered hs .copy (doCopy_of_length hlen),
    fun hlen hrange => exec_answered hs .copy (doCopy_of_range hlen hrange), fun src dst hne hp => ?banks⟩
  subst hp
  have hdo : s.doCopy (requestOf h ReqKind.copy.code [src.code, dst.code]) = _ :=
    doCopy_of_banks rfl src.ofCode_code dst.ofCode_code
  rw [if_neg hne] at hdo
  refine ⟨fun hop => ?busy, fun hop hlive => ?live, fun hop hlive hF hfrozen => ?frozen,
    fun hop hlive hfrozen => ?accepted⟩
  case busy => exact exec_answered hs .copy (hdo.trans (if_pos (isSome_operation hop)))
  all_goals rw [if_neg (not_isSome_operation hop)] at hdo
  case live => exact exec_answered hs .copy (hdo.trans (if_pos hlive))
  all_goals rw [if_neg hlive] at hdo
  case frozen => exact exec_answered hs .copy (hdo.trans (if_pos (by simp [frozenBank, hF, hfrozen])))
  case accepted =>
    rw [(s.frozenBank_eq_false_iff dst).mpr hfrozen] at hdo
    exact exec_answered hs .copy hdo

/-- Settles O24: CANCEL by the operation it ends. -/
theorem cancelEndsTheOperation : Obligations.CancelEndsTheOperation := by
  intro s h p hs
  refine ⟨fun hp => exec_answered hs .cancel (if_pos hp), fun hp hop => ?idle, fun seq n x hp hop => ?switch,
    fun seq n hp hop => ?resume, fun seq src dst n hp hop => ?copy⟩
  all_goals subst hp
  case idle => exact exec_answered hs .cancel (doCancel_idle hop)
  case switch => exact exec_answered hs .cancel (doCancel_pending hop)
  case resume => exact exec_answered hs .cancel (doCancel_pending hop)
  case copy => exact exec_answered hs .cancel (doCancel_pending hop)

/-- Settles O25: the step for an entry before the last, the last step, and none without a copy. -/
theorem copyStepCopiesOneEntry : Obligations.CopyStepCopiesOneEntry := by
  intro s hs
  rw [exec_copyStep hs]
  refine ⟨fun seq src dst n hn hop => ?step, fun seq src dst hne hop => ?last, fun hidle => ?idle⟩
  case step => rw [copyEngineStep_of_progress hop (by omega), if_neg (by omega)]; rfl
  case last =>
    rw [copyEngineStep_of_progress hop (by omega), if_pos rfl, completeCopy_copyEntry hne, copyDetail, if_neg nofun,
      Nat.zero_add]
    rfl
  case idle => rw [copyEngineStep_of_idle hidle]

/-- Settles O26: READ_PROTECTION's checks and its answer. -/
theorem readProtectionReturnsTheRecord : Obligations.ReadProtectionReturnsTheRecord := by
  intro s h p hs
  refine ⟨fun hlen => exec_answered hs .readProtection (doReadProtection_of_length hlen),
    fun hlen hrange => exec_answered hs .readProtection (doReadProtection_of_range hlen hrange), fun i hp => ?index⟩
  subst hp
  exact ⟨s.protectedAt i, exec_answered hs .readProtection (doReadProtection_of_index rfl (indexOf_ofNat i)),
    s.protectedAt_iff i⟩

/-- Refutes O27: the model takes a command octet that is no command's code for NONE (`ProtCommand.ofCode_of_lt`), so that
the field check of R56 does not apply to it. The part just reset, asked to set the command 3 at index 0, looks for an
alternate there and answers BAD_ENTRY where the statement has BAD_FIELD. -/
theorem not_protectionCommandSetsTheRecord : ¬ Obligations.ProtectionCommandSetsTheRecord := by
  intro hall
  have hs := ready_reset 0 0
  obtain ⟨-, hrange, -⟩ := hall State.reset ⟨0, 0, 0⟩ [0, 3] hs
  have hfield : exec (.protectionCommand ⟨0, 0, 0⟩ [0, 3]) State.reset =
      refused ⟨0, 0, 0⟩ .protectionCommand [0, 3] .badField State.reset := hrange rfl (.inr (by decide))
  have hnone : (State.reset.bank State.reset.liveBank).entries.get 0 = .off := reset_entries _ 0
  have hdo := doProtectionCommand_of_fields (s := State.reset) (p := [0, 3]) rfl (indexOf_ofNat 0)
    (ProtCommand.ofCode_of_lt (x := 3) (by decide))
  rw [if_neg (by decide), hnone] at hdo
  have hentry : exec (.protectionCommand ⟨0, 0, 0⟩ [0, 3]) State.reset =
      refused ⟨0, 0, 0⟩ .protectionCommand [0, 3] .badEntry State.reset := exec_answered hs .protectionCommand hdo
  exact answered_ne (by decide) rfl (by decide) (hentry.symm.trans hfield)

/-- Settles O39: FREEZE_FALLBACK's checks, and the flag it sets. -/
theorem freezeSetsTheFlag : Obligations.FreezeSetsTheFlag := by
  intro s h p hs
  have hdo := s.doFreezeFallback_nil
  refine ⟨fun hp => exec_answered hs .freezeFallback (doFreezeFallback_of_payload hp), fun hp hfrozen => ?frozen,
    fun seq src n hp hthawed hop => ?busy, fun hp hthawed hop => ?accepted⟩
  all_goals subst hp
  case frozen => exact exec_answered hs .freezeFallback (hdo.trans (if_pos hfrozen))
  all_goals rw [hthawed, if_neg nofun] at hdo
  case busy =>
    exact exec_answered hs .freezeFallback (hdo.trans (if_pos (s.copyInto_f_iff.mpr ⟨seq, src, n, hop⟩)))
  case accepted =>
    refine exec_answered hs .freezeFallback (hdo.trans (if_neg ?_))
    rw [copyInto_f_iff]
    rintro ⟨seq, src, n, hcopy⟩
    exact hop seq src n hcopy

end

section
/-!
The requests to the trunk receivers and to the frame timing unit, and the evaluation of the selection (R99 to R101, R116
to R128).
-/

namespace Sys2Proof.Machine

open State

theorem Event.num_injective : Function.Injective Event.num := by
  have hindex (x : Event) : x.num.val = x.ctorIdx := by cases x <;> rfl
  intro a b h
  rw [← Event.ofNat_ctorIdx a, ← Event.ofNat_ctorIdx b, ← hindex, ← hindex, h]

theorem occurrences_trans {s t u : State} {free : List Event} {ds es : Event → List Half} (h : occurrences s t free ds)
    (k : occurrences t u free es) : occurrences s u free (fun ev => ds ev ++ es ev) := by
  intro ev hev
  rw [k ev hev, EventRecord.after, h ev hev, EventRecord.after, EventRecord.after, ← List.foldl_append]

theorem settingsKept_trans {s t u : State} (h : settingsKept s t) (k : settingsKept t u) : settingsKept s u := by
  obtain ⟨hmask, hinterval, hrenotify⟩ := h
  obtain ⟨hmask', hinterval', hrenotify'⟩ := k
  exact ⟨hmask'.trans hmask, hinterval'.trans hinterval, hrenotify'.trans hrenotify⟩

/-- From `s` to `t` the events have had the occurrences `ds` and no others, and the channel has gained notices only. -/
structure Reported (s t : State) (ds : Event → List Half) : Prop where
  grew : queueGrew s t
  settings : settingsKept s t
  occurred : occurrences s t [] ds

namespace Reported

variable {s t u : State} {ds es : Event → List Half}

/-- No occurrence, where neither the channel nor the event unit differs. -/
theorem of_silent (hchannel : t.channel = s.channel) (hevents : t.events = s.events) : Reported s t (fun _ => []) where
  grew := ⟨[], nofun, by rw [hchannel, List.append_nil]⟩
  settings := by simp only [settingsKept, hevents, and_self]
  occurred _ _ := by
    simp only [record, hevents]
    rfl

theorem refl (s : State) : Reported s s (fun _ => []) := of_silent rfl rfl

theorem trans (h : Reported s t ds) (k : Reported t u es) : Reported s u (fun ev => ds ev ++ es ev) where
  grew := by
    obtain ⟨l, hl, hchannel⟩ := h.grew
    obtain ⟨m, hm, hchannel'⟩ := k.grew
    exact ⟨l ++ m, fun it hit => (List.mem_append.mp hit).elim (hl it) (hm it),
      by rw [hchannel', hchannel, List.append_assoc]⟩
  settings := settingsKept_trans h.settings k.settings
  occurred := occurrences_trans h.occurred k.occurred

theorem congr (h : Reported s t ds) (hds : ∀ ev, ds ev = es ev) : Reported s t es := by
  rwa [show es = ds from funext fun ev => (hds ev).symm]

/-- No occurrence before or after. -/
theorem trans_silent (h : Reported s t ds) (hchannel : u.channel = t.channel) (hevents : u.events = t.events) :
    Reported s u ds :=
  (h.trans (of_silent hchannel hevents)).congr fun _ => List.append_nil _

theorem of_silent_trans (h : Reported t u ds) (hchannel : t.channel = s.channel := by rfl)
    (hevents : t.events = s.events := by rfl) : Reported s u ds :=
  (of_silent hchannel hevents).trans h

theorem raise (s : State) (ev : Event) (d : Half) : Reported s (s.raise ev d) (fun x => if ev = x then [d] else []) where
  grew := (noticesOnly_raise s ev d).channel
  settings := settings_offerFrom _ _
  occurred x _ := by
    show _ = (s.record x.num).after (if ev = x then [d] else [])
    rw [facts_raise]
    by_cases h : ev = x
    · rw [if_pos (congrArg Event.num h), if_pos h]
    · rw [if_neg (fun hnum => h (Event.num_injective hnum)), if_neg h]
      rfl

theorem raiseAll (l : List (Event × Half)) (s : State) :
    Reported s (s.raiseAll l) (fun x => (l.filter fun y => y.1 == x).map Prod.snd) := by
  induction l generalizing s with
  | nil => exact refl s
  | cons y l ih =>
    refine ((raise s y.1 y.2).trans (ih _)).congr fun x => ?_
    by_cases h : y.1 = x
    · rw [if_pos h, List.filter_cons, if_pos (beq_iff_eq.mpr h)]
      rfl
    · rw [if_neg h, List.filter_cons, if_neg (fun hx => h (beq_iff_eq.mp hx))]
      rfl

end Reported

/-! ### The reports of the timing unit (R128) -/

theorem referenceDetail_eq (st : TimerState) : referenceDetail st = referenceReport st := by cases st <;> rfl

theorem reports_iff (old new : TimerState) : Timing.reports old new = true ↔ ¬ sameReference old new := by
  cases old <;> cases new <;> simp [Timing.reports, sameReference, TimerState.code, TimerState.trunk?]

namespace Timing

variable {tm : Timing} {t u : Trunk}

theorem stopped_iff (tm : Timing) : tm.stopped = true ↔ sourceStopped tm := by
  unfold stopped sourceStopped
  cases tm.handOver with
  | none => simp
  | some x =>
    refine ⟨fun h => ⟨x.trunk, congrArg some (by cases x; cases h; rfl)⟩, ?_⟩
    rintro ⟨k, h⟩
    rw [Option.some_injective _ h]

/-- The timer takes the starts, a hand-over and an owed start are dropped (R126). -/
theorem timerStandsIn_spelled (tm : Timing) :
    tm.timerStandsIn =
      { tm with source := .timer, handOver := none, owed := if tm.source = .timer then tm.owed else none } := by
  unfold timerStandsIn
  split
  next h => rw [if_pos h, ← h]
  next h => rw [if_neg (by rw [h]; nofun)]

theorem evaluate_of_empty (h : tm.refList = []) : tm.evaluate = { tm.timerStandsIn with state := .freeRun } := if_pos h

theorem evaluate_of_lost (hlist : tm.refList ≠ []) (hsel : tm.selection = none) (hst : tm.state = .tracking t) :
    tm.evaluate = { tm.timerStandsIn with state := .holdover t 8192 } := by
  unfold evaluate
  rw [if_neg hlist, hsel, hst]

theorem evaluate_of_nothing (hlist : tm.refList ≠ []) (hsel : tm.selection = none) (hst : ∀ t, tm.state ≠ .tracking t) :
    tm.evaluate = tm := by
  unfold evaluate
  rw [if_neg hlist, hsel]
  split
  next heq _ => cases heq
  next heq _ => cases heq
  next heq => exact absurd heq (hst _)
  next => rfl

theorem evaluate_of_tracked (hlist : tm.refList ≠ []) (hsel : tm.selection = some t) (hst : tm.state = .tracking t) :
    tm.evaluate = tm := by
  unfold evaluate
  rw [if_neg hlist, hsel, hst]
  exact if_pos rfl

theorem evaluate_of_selected (hlist : tm.refList ≠ []) (hsel : tm.selection = some t) (hst : tm.state ≠ .tracking t) :
    tm.evaluate = tm.track t := by
  unfold evaluate
  rw [if_neg hlist, hsel]
  split
  next heq hst' =>
    cases heq
    exact if_neg fun h => hst (hst'.trans (congrArg _ h.symm))
  next heq _ =>
    cases heq
    rfl
  next heq _ => cases heq
  next heq _ => cases heq

theorem track_of_stopped (h : sourceStopped tm) :
    tm.track t = { tm with state := .tracking t, source := .timer, owed := none, handOver := some ⟨t, false⟩ } := by
  unfold track
  rw [(stopped_iff tm).mpr h]
  rfl

theorem track_of_source (h : ¬ sourceStopped tm) (hsource : tm.source = .trunk t) :
    tm.track t = { tm with state := .tracking t, handOver := none } := by
  unfold track
  rw [Bool.eq_false_iff.mpr (mt (stopped_iff tm).mp h)]
  simp [hsource]

theorem track_of_not_source (h : ¬ sourceStopped tm) (hsource : tm.source ≠ .trunk t) :
    tm.track t = { tm with state := .tracking t, handOver := some ⟨t, false⟩ } := by
  unfold track
  rw [Bool.eq_false_iff.mpr (mt (stopped_iff tm).mp h)]
  simp [hsource]

/-- An evaluation that cannot select the tracked trunk leaves TRACKING it (R124). -/
theorem not_sameReference_evaluate (hst : tm.state = .tracking t) (hsel : tm.selection ≠ some t) :
    ¬ sameReference (.tracking t) tm.evaluate.state := by
  by_cases hlist : tm.refList = []
  · rw [evaluate_of_empty hlist]
    exact id
  · cases hu : tm.selection with
    | none =>
      rw [evaluate_of_lost hlist hu hst]
      exact id
    | some u =>
      have hne : u ≠ t := fun h => hsel (h ▸ hu)
      rw [evaluate_of_selected hlist hu (by rw [hst]; exact fun h => hne (TimerState.tracking.inj h).symm)]
      exact fun h => hne h.symm

end Timing

namespace State

theorem retime_of_same {s : State} {tm : Timing} (h : sameReference s.timing.state tm.state) :
    s.retime tm = s.withTiming tm :=
  if_neg fun hr => (reports_iff _ _).mp hr h

theorem retime_of_changed {s : State} {tm : Timing} (h : ¬ sameReference s.timing.state tm.state) :
    s.retime tm = (s.withTiming tm).raise .referenceChange (referenceReport tm.state) := by
  rw [← referenceDetail_eq]
  exact if_pos ((reports_iff _ _).mpr h)

theorem reported_retime_of_changed {s : State} {tm : Timing} (h : ¬ sameReference s.timing.state tm.state) :
    Reported s (s.retime tm) (fun ev => if .referenceChange = ev then [referenceReport tm.state] else []) := by
  rw [retime_of_changed h]
  exact .of_silent_trans (.raise (s.withTiming tm) _ _)

/-! ### The loss of a trunk (R120, R123, R126) -/

theorem timing_timingLosesTrunk (s : State) (t : Trunk) : (s.timingLosesTrunk t).timing = timingAfterLoss s t := by
  rw [timingLosesTrunk_eq, apply_ite State.timing]
  rfl

theorem timingAfterLoss_congr {s u : State} (h : u.timing = s.timing) (t : Trunk) :
    timingAfterLoss u t = timingAfterLoss s t := by
  have heval (tm : Timing) : (u.withTiming tm).evaluateReference.timing = (s.withTiming tm).evaluateReference.timing := by
    simp
  simp only [timingAfterLoss, h, heval]

theorem lossReports_congr {s u : State} (h : u.timing = s.timing) (w : State) (t : Trunk) :
    lossReports u w t = lossReports s w t := by
  simp only [lossReports, h]

/-- The evaluation at the loss of the tracked trunk always has something to report. -/
theorem reported_timingLosesTrunk (s : State) (t : Trunk) :
    Reported s (s.timingLosesTrunk t)
      (fun ev => if .referenceChange = ev then lossReports s (s.timingLosesTrunk t) t else []) := by
  by_cases hst : s.timing.state = .tracking t
  · obtain ⟨_, hdelivered, hstate, _⟩ := s.timing.givesUp_frame t
    have hgiven : (s.timing.givesUp t).state = .tracking t := hstate.trans hst
    have hsel : (s.timing.givesUp t).selection ≠ some t := fun hsel => by
      obtain ⟨_, hq⟩ := Timing.qualified_of_selection hsel
      rw [Timing.qualified, hdelivered, Table.get_set_self] at hq
      cases hq
    have hchanged := Timing.not_sameReference_evaluate hgiven hsel
    rw [lossReports, if_pos hst, timingLosesTrunk_eq, if_pos hst, timing_evaluateReference]
    refine .of_silent_trans (t := s.withTiming (s.timing.givesUp t)) (reported_retime_of_changed ?_)
    rw [show (s.withTiming (s.timing.givesUp t)).timing.state = .tracking t from hgiven]
    exact hchanged
  · rw [lossReports, if_neg hst, timingLosesTrunk_eq, if_neg hst]
    exact (Reported.of_silent (s := s) (t := s.withTiming (s.timing.givesUp t)) rfl rfl).congr fun ev => (ite_self _).symm

/-- The same from a state whose line records have moved already. -/
theorem reported_loss {s u : State} (htiming : u.timing = s.timing) (hchannel : u.channel = s.channel)
    (hevents : u.events = s.events) (t : Trunk) :
    Reported s (u.timingLosesTrunk t)
      (fun ev => if .referenceChange = ev then lossReports s (u.timingLosesTrunk t) t else []) := by
  rw [← lossReports_congr htiming]
  exact .of_silent_trans (reported_timingLosesTrunk u t) hchannel hevents

/-! ### SET_TRUNK and READ_COUNTERS (R100, R101) -/

variable {s : State} {p : List Byte}

theorem disableTrunk_of_unlocked {t : Trunk} (h : ∀ c miss rem, (s.receiver t).align ≠ .locked c miss rem) :
    s.disableTrunk t = s.setReceiver t (s.receiver t).disable := by
  unfold disableTrunk
  refine if_neg fun hlocked => ?_
  obtain ⟨c, miss, rem, halign⟩ := Receiver.exists_of_isLocked hlocked
  exact h c miss rem halign

theorem disableTrunk_of_locked {t : Trunk} (hm : t ≠ s.mgmtTrunk) (h : (s.receiver t).isLocked = true) :
    s.disableTrunk t = ((s.setReceiver t (s.receiver t).disable).idleStore t).timingLosesTrunk t :=
  (if_pos h).trans (if_neg hm)

theorem disableTrunk_leaves {t : Trunk}
    (h : s.disableTrunk t = ((s.setReceiver t (s.receiver t).disable).idleStore t).timingLosesTrunk t) :
    Reported s (s.disableTrunk t) (fun ev => if .referenceChange = ev then lossReports s (s.disableTrunk t) t else [])
    ∧ NoticesOnly (((s.setReceiver t (s.receiver t).disable).idleStore t).withTiming (s.disableTrunk t).timing)
        (s.disableTrunk t)
    ∧ (s.disableTrunk t).timing = timingAfterLoss s t := by
  generalize s.disableTrunk t = u at h
  subst h
  exact ⟨reported_loss (by rfl) (by rfl) (by rfl) t, noticesOnly_timingLosesTrunk _ t,
    (timing_timingLosesTrunk _ t).trans (timingAfterLoss_congr (by rfl) t)⟩

theorem doSetTrunk_of_length (h : p.length ≠ 2) : s.doSetTrunk p = refuse s .badLength := if_pos h

theorem doSetTrunk_of_range (hlen : p.length = 2) (h : 3 < (byteAt p 0).toNat ∨ 1 < (byteAt p 1).toNat) :
    s.doSetTrunk p = refuse s .badField := by
  unfold doSetTrunk
  rw [if_neg (not_not_intro hlen)]
  split
  next ht hmark =>
    rcases h with h | h
    · exact nomatch (trunkOf_eq_none h).symm.trans ht
    · exact nomatch ((not_markOk_iff _).mpr h).symm.trans hmark
  next => rfl

theorem doSetTrunk_of_fields {t : Trunk} (hlen : p.length = 2) (ht : trunkOf (byteAt p 0) = some t)
    (hmark : markOk (byteAt p 1) = true) :
    s.doSetTrunk p =
      if !(byteAt p 1 == 1) ∧ t = s.mgmtTrunk then refuse s .notPermitted
      else
        let u := if byteAt p 1 == 1 then s.enableTrunk t else s.disableTrunk t
        ⟨.ok, [BitVec.ofNat 8 t.val, BitVec.ofNat 8 (u.receiver t).align.code.toNat], u⟩ := by
  unfold doSetTrunk
  rw [if_neg (not_not_intro hlen), ht, hmark]
  simp only [trunkOctet, BitVec.ofNat_toNat, BitVec.zeroExtend]

theorem doSetTrunk_enable (s : State) (t : Trunk) :
    s.doSetTrunk [BitVec.ofNat 8 t.val, 1] =
      ⟨.ok, [BitVec.ofNat 8 t.val, BitVec.ofNat 8 ((s.enableTrunk t).receiver t).align.code.toNat], s.enableTrunk t⟩ :=
  doSetTrunk_of_fields rfl (trunkOf_ofNat t) rfl

theorem doSetTrunk_disable (s : State) (t : Trunk) :
    s.doSetTrunk [BitVec.ofNat 8 t.val, 0] =
      if t = s.mgmtTrunk then refuse s .notPermitted
      else ⟨.ok, [BitVec.ofNat 8 t.val, BitVec.ofNat 8 ((s.disableTrunk t).receiver t).align.code.toNat],
        s.disableTrunk t⟩ :=
  (doSetTrunk_of_fields (p := [_, 0]) rfl (trunkOf_ofNat t) rfl).trans (if_congr (and_iff_right rfl) rfl rfl)

theorem doReadCounters_of_length (h : p.length ≠ 2) : s.doReadCounters p = refuse s .badLength := if_pos h

theorem doReadCounters_of_range (hlen : p.length = 2) (h : 3 < (byteAt p 0).toNat ∨ 1 < (byteAt p 1).toNat) :
    s.doReadCounters p = refuse s .badField := by
  unfold doReadCounters
  rw [if_neg (not_not_intro hlen)]
  split
  next ht hmark =>
    rcases h with h | h
    · exact nomatch (trunkOf_eq_none h).symm.trans ht
    · exact nomatch ((not_markOk_iff _).mpr h).symm.trans hmark
  next => rfl

theorem doReadCounters_of_fields {t : Trunk} (hlen : p.length = 2) (ht : trunkOf (byteAt p 0) = some t)
    (hmark : markOk (byteAt p 1) = true) :
    s.doReadCounters p =
      ⟨.ok, BitVec.ofNat 8 t.val :: (s.receiver t).counters.payload,
        if byteAt p 1 = 1 then s.countOn t (fun _ => .zero) else s⟩ := by
  unfold doReadCounters
  rw [if_neg (not_not_intro hlen), ht, hmark]
  rfl

/-! ### SET_REFERENCE (R121, R122) -/

/-- The octets that name the trunks of a list. -/
abbrev trunkOctets (l : List Trunk) : List Byte := l.map fun t => BitVec.ofNat 8 t.val

theorem map_trunkOf_trunkOctets (l : List Trunk) : (trunkOctets l).map trunkOf = l.map some := by
  rw [List.map_map]
  exact List.map_congr_left fun t _ => trunkOf_ofNat t

theorem trunkOctets_of_range {q : List Byte} (h : (q.map trunkOf).all Option.isSome = true) :
    trunkOctets ((q.map trunkOf).filterMap id) = q := by
  induction q with
  | nil => rfl
  | cons x q ih =>
    rw [List.map_cons, List.all_cons, Bool.and_eq_true] at h
    obtain ⟨hx, hq⟩ := h
    obtain ⟨t, ht⟩ := Option.isSome_iff_exists.mp hx
    have hxt : BitVec.ofNat 8 t.val = x := by
      unfold trunkOf at ht
      split at ht
      next hlt =>
        cases ht
        exact (ofNat_toNat_eq rfl).symm
      next => cases ht
    rw [List.map_cons, ht, ← hxt]
    exact congrArg (BitVec.ofNat 8 t.val :: ·) (ih hq)

theorem trunkOctets_injective {t u : Trunk} (h : BitVec.ofNat 8 t.val = BitVec.ofNat 8 u.val) : t = u :=
  Option.some_injective _ ((trunkOf_ofNat t).symm.trans ((congrArg trunkOf h).trans (trunkOf_ofNat u)))

theorem doSetReference_of_length (h : p.length ≠ 1 + (byteAt p 0).toNat) : s.doSetReference p = refuse s .badLength :=
  if_pos h

theorem doSetReference_of_range (hlen : p.length = 1 + (byteAt p 0).toNat)
    (h : 4 < (byteAt p 0).toNat ∨ (∃ x ∈ p.drop 1, 3 < x.toNat) ∨ ¬ (p.drop 1).Nodup) :
    s.doSetReference p = refuse s .badField := by
  refine (if_neg (not_not_intro hlen)).trans (if_pos ?_)
  rw [Bool.not_eq_true', Bool.not_eq_true', decide_eq_false_iff_not]
  rcases h with h | ⟨x, hx, hrange⟩ | hdouble
  · exact .inl h
  · refine .inr (.inl (Bool.eq_false_iff.mpr fun hall => ?_))
    have hsome := List.all_eq_true.mp hall _ (List.mem_map_of_mem hx)
    rw [trunkOf_eq_none hrange] at hsome
    cases hsome
  · refine .inr (Classical.or_iff_not_imp_left.mpr fun hall hnodup => hdouble ?_)
    rw [← trunkOctets_of_range (q := p.drop 1) (Bool.not_eq_false _ ▸ hall)]
    exact hnodup.map fun _ _ => trunkOctets_injective

theorem doSetReference_of_list (s : State) {l : List Trunk} (hlen : l.length ≤ 4) (hl : l.Nodup) :
    s.doSetReference (BitVec.ofNat 8 l.length :: trunkOctets l) =
      ⟨.ok, [BitVec.zeroExtend 8 (s.replaceReferences l).timing.state.code,
        trunkOctet (s.replaceReferences l).timing.state.trunk?, s.qualifiedMarks], s.replaceReferences l⟩ := by
  have hn : (byteAt (BitVec.ofNat 8 l.length :: trunkOctets l) 0).toNat = l.length := toNat_ofNat_of_lt (by omega)
  have hnamed : ((BitVec.ofNat 8 l.length :: trunkOctets l).drop 1).map trunkOf = l.map some := map_trunkOf_trunkOctets l
  unfold doSetReference
  simp only [hn, hnamed]
  rw [if_neg, if_neg]
  · simp
  · simp [hl, hlen]
  · simp [Nat.add_comm]

theorem getLsbD_qualifiedMarks (s : State) (i : Nat) :
    s.qualifiedMarks.getLsbD i = if h : i < 4 then s.timing.delivered.get ⟨i, h⟩ == 64 else false := by
  rw [qualifiedMarks, BitVec.getLsbD_ofFnLE]
  by_cases h : i < 8
  · rw [dif_pos h]
    rfl
  · rw [dif_neg h, dif_neg (by omega)]

theorem toNat_qualifiedMarks (s : State) : s.qualifiedMarks.toNat < 16 := by
  refine Nat.lt_pow_two_of_testBit (n := 4) _ fun i hi => ?_
  have hbit := s.getLsbD_qualifiedMarks i
  rwa [dif_neg (by omega)] at hbit

end State

end Sys2Proof.Machine

open Sys2Proof Sys2Proof.Machine Sys2Proof.Machine.State

/-- Settles O35: an evaluation by the list, the selection and the timer state. -/
theorem selectionIsEvaluated : Obligations.SelectionIsEvaluated := by
  intro s tm u standsIn
  have hu : u.timing = tm.evaluate := timing_evaluateReference s
  refine ⟨rfl, fun hlist => ?empty, fun hlist hsel => ⟨fun t hst => ?lost, fun hst => ?nothing⟩,
    fun t hlist hsel hst => ?tracked, fun t hlist hsel hst => ?selected, fun h => ?same, fun h => ?changed⟩
  case empty => rw [hu, Timing.evaluate_of_empty hlist, Timing.timerStandsIn_spelled]
  case lost => rw [hu, Timing.evaluate_of_lost hlist hsel hst, Timing.timerStandsIn_spelled]
  case nothing => rw [hu, Timing.evaluate_of_nothing hlist hsel hst]
  case tracked => rw [hu, Timing.evaluate_of_tracked hlist hsel hst]
  case selected =>
    rw [hu, Timing.evaluate_of_selected hlist hsel hst]
    exact ⟨Timing.track_of_stopped, Timing.track_of_source, Timing.track_of_not_source⟩
  case same =>
    rw [hu] at h ⊢
    exact retime_of_same h
  case changed =>
    rw [hu] at h ⊢
    exact retime_of_changed h

/-- Settles O31: the checks of SET_TRUNK, and a receiver that is not in LOCKED. -/
theorem setTrunkEnablesAndDisables : Obligations.SetTrunkEnablesAndDisables := by
  intro s h p hs
  refine ⟨fun hlen => exec_answered hs .setTrunk (doSetTrunk_of_length hlen),
    fun hlen hrange => exec_answered hs .setTrunk (doSetTrunk_of_range hlen hrange), fun t hp hm => ?management,
    fun t hp halign => ?enabled, fun t hp halign => ?already, fun t hp hm halign => ?disabled⟩
  all_goals subst hp
  case management => exact exec_answered hs .setTrunk ((s.doSetTrunk_disable t).trans (if_pos hm))
  case enabled =>
    have henable : s.enableTrunk t = s.setReceiver t (s.receiver t).enable := if_pos halign
    refine exec_answered hs .setTrunk ((s.doSetTrunk_enable t).trans ?_)
    rw [henable, receiver_setReceiver_self]
    rfl
  case already =>
    have henable : s.enableTrunk t = s := if_neg halign
    refine exec_answered hs .setTrunk ((s.doSetTrunk_enable t).trans ?_)
    rw [henable]
  case disabled =>
    refine exec_answered hs .setTrunk (((s.doSetTrunk_disable t).trans (if_neg hm)).trans ?_)
    rw [disableTrunk_of_unlocked halign, receiver_setReceiver_self]
    rfl

/-- Settles O32: the disable is the receiver's own, then the store's and the timing unit's parts in leaving LOCKED. -/
theorem disableLeavesLocked : Obligations.DisableLeavesLocked := by
  intro s h t c miss rem hs hm halign
  have hdisable := disableTrunk_of_locked hm (Receiver.isLocked_of_align halign)
  obtain ⟨hreport, hkept, htiming⟩ := disableTrunk_leaves hdisable
  have hreceiver (k : Trunk) : (s.disableTrunk t).receiver k = if k = t then (s.receiver t).disable else s.receiver k :=
    (hkept.receiver k).trans (receiver_setReceiver ..)
  have hstore (k : Trunk) : (s.disableTrunk t).store k = if k = t then .idle else s.store k :=
    (hkept.store k).trans (store_setStore ..)
  obtain ⟨_, _, _, _, _, _, hmap, hexchange, hprotection, hoperation, hsupervision⟩ := hkept.fields
  refine ⟨s.disableTrunk t, exec_answered hs .setTrunk (((s.doSetTrunk_disable t).trans (if_neg hm)).trans ?_),
    (hreceiver t).trans (if_pos rfl), (hstore t).trans (if_pos rfl), htiming,
    fun k hk => ⟨(hreceiver k).trans (if_neg hk), (hstore k).trans (if_neg hk)⟩, ?_, hreport.grew, hreport.settings,
    hmap, hexchange, hprotection, hoperation, hsupervision⟩
  · rw [hreceiver, if_pos rfl]
    rfl
  · refine (hreport.congr fun ev => ?_).occurred
    cases ev <;> rfl

/-- Settles O34: the checks of SET_REFERENCE, and the reading of what it reports. -/
theorem setReferenceReplacesTheList : Obligations.SetReferenceReplacesTheList := by
  intro s h p hs
  refine ⟨fun hlen => exec_answered hs .setReference (doSetReference_of_length hlen),
    fun hlen hrange => exec_answered hs .setReference (doSetReference_of_range hlen hrange), fun l hlen hl hp => ?_⟩
  subst hp
  intro u
  refine ⟨s.qualifiedMarks, exec_answered hs .setReference ((s.doSetReference_of_list hlen hl).trans ?_), fun t => ?_,
    s.toNat_qualifiedMarks⟩
  · show Reply.mk _ [BitVec.zeroExtend 8 u.timing.state.code, trunkOctet u.timing.state.trunk?, _] u = _
    cases u.timing.state <;> rfl
  · rw [getLsbD_qualifiedMarks, dif_pos t.isLt]

/-- Settles O33: the checks of READ_COUNTERS, and the clear. -/
theorem readCountersReadsAndClears : Obligations.ReadCountersReadsAndClears := by
  intro s h p hs
  refine ⟨fun hlen => exec_answered hs .readCounters (doReadCounters_of_length hlen),
    fun hlen hrange => exec_answered hs .readCounters (doReadCounters_of_range hlen hrange), fun t clear hp => ?_⟩
  subst hp
  have hmark : markOk (mark clear) = true ∧ (mark clear = 1 ↔ clear = true) := by cases clear <;> decide
  obtain ⟨hok, hset⟩ := hmark
  have hread : s.doReadCounters [BitVec.ofNat 8 t.val, mark clear] = _ := doReadCounters_of_fields rfl (trunkOf_ofNat t) hok
  exact exec_answered hs .readCounters (hread.trans (congrArg (Reply.mk _ _) (if_congr hset rfl rfl)))
end

section
/-!
The requests to the supervision unit (R157 to R170).
-/

namespace Sys2Proof.Machine

open State

namespace State

variable {s : State} {p : List Byte}

/-! ### KEEP (R158 to R160) -/

theorem doKeep_of_length (h : p.length ≠ 1) : s.doKeep p = refuse s .badLength := if_pos h

theorem doKeep_of_range (hlen : p.length = 1) (h : KeepPhase.ofCode (byteAt p 0) = none) :
    s.doKeep p = refuse s .badField := by
  unfold doKeep
  rw [if_neg (not_not_intro hlen), h]

theorem doKeep_of_phase {phase : KeepPhase} {st : Status} {u : State} (hlen : p.length = 1)
    (h : KeepPhase.ofCode (byteAt p 0) = some phase) (hkeep : s.keepAlive phase = (st, u)) :
    s.doKeep p = ⟨st, u.supervision.keepPayload, u⟩ := by
  unfold doKeep
  rw [if_neg (not_not_intro hlen), h]
  simp only [hkeep]

/-! ### SET_SUPERVISION (R165) -/

theorem doSetSupervision_of_length (h : p.length ≠ 2) : s.doSetSupervision p = refuse s .badLength := if_pos h

theorem doSetSupervision_of_period (hlen : p.length = 2) :
    s.doSetSupervision p =
      if 1 ≤ (halfAt p 0).toNat ∧ (halfAt p 0).toNat ≤ 255 then refuse s .badField
      else if halfAt p 0 = 0 ∧ s.straps.supv then refuse s .notPermitted
      else ⟨.ok, (periodSet s.supervision (halfAt p 0)).payload, s.withSupervision (periodSet s.supervision (halfAt p 0))⟩ :=
  if_neg (not_not_intro hlen)

theorem periodSet_zero (v : Supervision) :
    periodSet v 0 = { v with enabled := false, state := match v.state with | .watching _ => .off | other => other } :=
  if_pos rfl

theorem periodSet_nonzero (v : Supervision) {n : Half} (h : n ≠ 0) :
    periodSet v n =
      { v with
        enabled := true, period := n
        state := match v.state with | .lapsed c => .lapsed c | _ => .watching n.toNat } :=
  if_neg h

/-! ### FALLBACK (R22, R61, R70, R161, R164) -/

theorem doFallback_of_payload (h : p ≠ []) : s.doFallback p = refuse s .badLength := if_pos h

theorem doFallback_nil (s : State) :
    s.doFallback [] =
      if s.isLapsed then ⟨.state, [s.supervision.state.causeCode], s⟩
      else ⟨.ok, octets (s.timing.counter + 1), s.lapseByRequest⟩ :=
  if_neg (not_not_intro rfl)

end State

/-- What a lapse reports of the operation it ends (R22, R70). -/
def lapseEndReports (cause : LapseCause) (op : Option PendingOp) : Event → List Half
  | .opCancelled =>
      match op with
      | some (.switch seq _ _) => [cancelDetail false (lapseCancelCause cause) seq]
      | _ => []
  | .copyDone =>
      match op with
      | some (.copy seq _ .f _) => [copyDetail true seq]
      | _ => []
  | _ => []

namespace State

variable {s : State} {p : List Byte}

theorem lapseOperation_of_none (cause : LapseCause) (h : s.operation = none) : s.lapseOperation cause = s := by
  unfold lapseOperation
  rw [h]

theorem lapseOperation_of_switch (cause : LapseCause) {seq : Byte} {n : Half} {x : Option Half}
    (h : s.operation = some (.switch seq n x)) :
    s.lapseOperation cause =
      (s.withOperation none).raise .opCancelled (cancelDetail false (lapseCancelCause cause) seq) := by
  unfold lapseOperation
  rw [h]

theorem lapseOperation_of_resume (cause : LapseCause) {seq : Byte} {n : Half} (h : s.operation = some (.resume seq n)) :
    s.lapseOperation cause = s := by
  unfold lapseOperation
  rw [h]

theorem lapseOperation_of_copyF (cause : LapseCause) {seq : Byte} {src : BankId} {n : Nat}
    (h : s.operation = some (.copy seq src .f n)) : s.lapseOperation cause = s.abandonCopy seq .f := by
  unfold lapseOperation
  rw [h]

theorem lapseOperation_of_copy (cause : LapseCause) {seq : Byte} {src dst : BankId} {n : Nat}
    (h : s.operation = some (.copy seq src dst n)) (hdst : dst ≠ .f) : s.lapseOperation cause = s := by
  unfold lapseOperation
  rw [h]
  cases dst
  case f => exact absurd rfl hdst
  all_goals rfl

/-- The five ways a lapse meets the operation, for a property of what it leaves. -/
theorem lapseOperation_induction {P : Option PendingOp → State → Prop} (cause : LapseCause)
    (none : s.operation = none → P none s)
    (switch : ∀ seq n x, s.operation = some (.switch seq n x) → P (some (.switch seq n x))
      ((s.withOperation Option.none).raise .opCancelled (cancelDetail false (lapseCancelCause cause) seq)))
    (resume : ∀ seq n, s.operation = some (.resume seq n) → P (some (.resume seq n)) s)
    (copyF : ∀ seq src n, s.operation = some (.copy seq src .f n) → P (some (.copy seq src .f n)) (s.abandonCopy seq .f))
    (copy : ∀ seq src dst n, s.operation = some (.copy seq src dst n) → dst ≠ .f → P (some (.copy seq src dst n)) s) :
    P s.operation (s.lapseOperation cause) := by
  cases hop : s.operation with
  | none =>
    rw [lapseOperation_of_none cause hop]
    exact none hop
  | some op =>
    cases op with
    | switch seq n x =>
      rw [lapseOperation_of_switch cause hop]
      exact switch seq n x hop
    | resume seq n =>
      rw [lapseOperation_of_resume cause hop]
      exact resume seq n hop
    | copy seq src dst n =>
      by_cases hdst : dst = .f
      · subst hdst
        rw [lapseOperation_of_copyF cause hop]
        exact copyF seq src n hop
      · rw [lapseOperation_of_copy cause hop hdst]
        exact copy seq src dst n hop hdst

theorem reported_abandonCopy (s : State) (seq : Byte) (dst : BankId) :
    Reported s (s.abandonCopy seq dst) (fun ev => if .copyDone = ev then [copyDetail true seq] else []) := by
  refine .of_silent_trans (.raise ((s.bumpEdit dst).withOperation none) _ _) ?_ ?_
  all_goals simp [bumpEdit]

theorem reported_lapseOperation (s : State) (cause : LapseCause) :
    Reported s (s.lapseOperation cause) (lapseEndReports cause s.operation) := by
  refine lapseOperation_induction (P := fun op u => Reported s u (lapseEndReports cause op)) cause
    (fun _ => ?idle) (fun seq n x _ => ?switch) (fun seq n _ => ?idle') (fun seq src n _ => ?copyF)
    (fun seq src dst n _ hdst => ?copy)
  case idle => exact (Reported.refl s).congr fun ev => by cases ev <;> rfl
  case switch =>
    refine (Reported.of_silent_trans (.raise (s.withOperation none) _ _)).congr fun ev => ?_
    cases ev <;> rfl
  case idle' => exact (Reported.refl s).congr fun ev => by cases ev <;> rfl
  case copyF => exact (s.reported_abandonCopy seq .f).congr fun ev => by cases ev <;> rfl
  case copy =>
    cases dst
    case f => exact absurd rfl hdst
    all_goals exact (Reported.refl s).congr fun ev => by cases ev <;> rfl

/-- What a lapse leaves as it is, whatever operation it ends. -/
theorem lapseOperation_frame (s : State) (cause : LapseCause) :
    (s.lapseOperation cause).pending = s.pending ∧ (s.lapseOperation cause).resetHeld = s.resetHeld
    ∧ (s.lapseOperation cause).straps = s.straps ∧ (s.lapseOperation cause).receivers = s.receivers
    ∧ (s.lapseOperation cause).stores = s.stores ∧ (s.lapseOperation cause).timing = s.timing
    ∧ (s.lapseOperation cause).exchange = s.exchange ∧ (s.lapseOperation cause).protection = s.protection
    ∧ (s.lapseOperation cause).supervision = s.supervision
    ∧ (s.lapseOperation cause).map.bankF.entries = s.map.bankF.entries := by
  refine lapseOperation_induction (P := fun _ u => u.pending = s.pending ∧ u.resetHeld = s.resetHeld
    ∧ u.straps = s.straps ∧ u.receivers = s.receivers ∧ u.stores = s.stores ∧ u.timing = s.timing
    ∧ u.exchange = s.exchange ∧ u.protection = s.protection ∧ u.supervision = s.supervision
    ∧ u.map.bankF.entries = s.map.bankF.entries) cause (fun _ => ?_) (fun _ _ _ _ => ?_) (fun _ _ _ => ?_)
    (fun _ _ _ _ => ?_) (fun _ _ _ _ _ _ => ?_)
  all_goals simp [abandonCopy, bumpEdit, setBank, bank]

/-- What a lapse leaves of the operation and of the map (R22, R70, R77). -/
theorem lapseOperation_ends (s : State) (cause : LapseCause) :
    (s.operation = none → (s.lapseOperation cause).operation = none ∧ (s.lapseOperation cause).map = s.map)
    ∧ (∀ seq n x, s.operation = some (.switch seq n x) →
        (s.lapseOperation cause).operation = none ∧ (s.lapseOperation cause).map = s.map)
    ∧ (∀ seq src n, s.operation = some (.copy seq src .f n) → (s.lapseOperation cause).operation = none ∧
        (s.lapseOperation cause).map = { s.map with bankF := ⟨s.map.bankF.entries, s.map.bankF.editCount + 1⟩ })
    ∧ (∀ seq src dst n, s.operation = some (.copy seq src dst n) → dst ≠ .f →
        (s.lapseOperation cause).operation = s.operation ∧ (s.lapseOperation cause).map = s.map) := by
  refine ⟨fun hop => ?_, fun seq n x hop => ?_, fun seq src n hop => ?_, fun seq src dst n hop hdst => ?_⟩
  · rw [lapseOperation_of_none cause hop]
    exact ⟨hop, rfl⟩
  · rw [lapseOperation_of_switch cause hop]
    simp
  · rw [lapseOperation_of_copyF cause hop]
    simp [abandonCopy, bumpEdit, setBank, bank]
  · rw [lapseOperation_of_copy cause hop hdst]
    exact ⟨rfl, rfl⟩

theorem protectFallback_eq (s : State) : s.protectFallback = s.withProtection s.protectFallback.protection := by
  unfold protectFallback
  split <;> rfl

theorem protectFallback_of_none (h : s.exchange.latched = none) : s.protectFallback = s := by
  unfold protectFallback
  rw [h]

theorem protectFallback_of_latched {l : Latched} (h : s.exchange.latched = some l) :
    s.protectFallback = s.restUnequal l.entries s.map.bankF.entries := by
  unfold protectFallback
  rw [h]

theorem lapseByRequest_eq (s : State) :
    s.lapseByRequest =
      (((s.enterLapsed .fallback).lapseOperation .fallback).withProtection
        ((s.enterLapsed .fallback).lapseOperation .fallback).protectFallback.protection).raise
          .lapse (lapseDetail .fallback) := by
  rw [← protectFallback_eq]
  rfl

theorem reported_lapseByRequest (s : State) :
    Reported s s.lapseByRequest (fun ev =>
      lapseEndReports .fallback s.operation ev ++ if .lapse = ev then [lapseDetail .fallback] else []) := by
  rw [lapseByRequest_eq]
  refine (Reported.of_silent_trans (reported_lapseOperation (s.enterLapsed .fallback) .fallback)).trans ?_
  exact .of_silent_trans (.raise _ _ _)

end State

end Sys2Proof.Machine

open Sys2Proof Sys2Proof.Machine Sys2Proof.Machine.State

/-- Settles O36: a KEEP by the supervision state and the phase before. -/
theorem keepReloadsOrIsStale : Obligations.KeepReloadsOrIsStale := by
  intro s h p hs
  refine ⟨fun hlen => exec_answered hs .keep (doKeep_of_length hlen), fun hlen h1 h2 => ?range, fun phase hp => ?phase⟩
  case range => exact exec_answered hs .keep (doKeep_of_range hlen ((if_neg h1).trans (if_neg h2)))
  case phase =>
    have hlen : p.length = 1 := by rw [hp]; rfl
    have hphase : KeepPhase.ofCode (byteAt p 0) = some phase := by
      rw [hp]
      cases phase <;> rfl
    refine ⟨fun c hst hnew => ?reloaded, fun c hst hsame => ?stale, fun hst => ?off, fun cause hst => ?lapsed⟩
    case reloaded =>
      exact exec_answered hs .keep (doKeep_of_phase hlen hphase (keepAlive_of_new hst hnew))
    case stale =>
      refine exec_answered hs .keep ((doKeep_of_phase hlen hphase (keepAlive_of_repeated hst hsame)).trans ?_)
      rw [show (s.raise .staleKeep 0).supervision = s.supervision by simp, Supervision.keepPayload, hst]
      rfl
    case off =>
      refine exec_answered hs .keep ((doKeep_of_phase hlen hphase (keepAlive_of_unwatched (by simp [hst]))).trans ?_)
      simp only [Supervision.keepPayload, fields_withSupervision, hst]
      rfl
    case lapsed =>
      refine exec_answered hs .keep ((doKeep_of_phase hlen hphase (keepAlive_of_unwatched (by simp [hst]))).trans ?_)
      simp only [Supervision.keepPayload, fields_withSupervision, hst, SupState.count, SupState.causeCode]
      rfl

/-- Settles O37: the checks of SET_SUPERVISION, and the record it sets by the supervision state. -/
theorem setSupervisionSetsThePeriod : Obligations.SetSupervisionSetsThePeriod := by
  intro s h p hs v n reports sets
  refine ⟨fun hlen => exec_answered hs .setSupervision (doSetSupervision_of_length hlen), fun hlen h1 h255 => ?range,
    fun hlen hzero hsupv => ?strapped, fun hlen hzero hsupv => ?zero, fun hlen h256 => ?period⟩
  all_goals have hdo := doSetSupervision_of_period (s := s) hlen
  case range => exact exec_answered hs .setSupervision (hdo.trans (if_pos ⟨h1, h255⟩))
  case strapped =>
    have hzero : halfAt p 0 = 0 := hzero
    rw [hzero, if_neg (by decide)] at hdo
    exact exec_answered hs .setSupervision (hdo.trans (if_pos ⟨rfl, hsupv⟩))
  case zero =>
    have hzero : halfAt p 0 = 0 := hzero
    rw [hzero, if_neg (by decide), if_neg (by simp [hsupv]), periodSet_zero] at hdo
    refine ⟨fun hst => ?_, fun c hst => ?_, fun cause hst => ?_⟩
    all_goals
      have hst : s.supervision.state = _ := hst
      refine exec_answered hs .setSupervision (hdo.trans ?_)
      simp only [v, hst]
      rfl
  case period =>
    have h256 : 256 ≤ (halfAt p 0).toNat := h256
    have hne : halfAt p 0 ≠ 0 := fun hzero => by
      rw [hzero] at h256
      exact absurd h256 (by decide)
    rw [if_neg (by omega), if_neg (fun hzero => hne hzero.1), periodSet_nonzero _ hne] at hdo
    refine ⟨fun hst => ?_, fun c hst => ?_, fun cause hst => ?_⟩
    all_goals
      have hst : s.supervision.state = _ := hst
      refine exec_answered hs .setSupervision (hdo.trans ?_)
      simp only [v, hst]
      rfl

/-- Settles O38: the checks of FALLBACK, and the lapse with the protection unit's part in it. -/
theorem fallbackHandsThePartToF : Obligations.FallbackHandsThePartToF := by
  intro s h p hs
  refine ⟨fun hp => exec_answered hs .fallback (doFallback_of_payload hp), fun cause hp hst => ?lapsed,
    fun hp hlapsed => ?accepted⟩
  all_goals subst hp
  case lapsed =>
    have hlapsed : s.isLapsed = true := by simp [isLapsed, hst]
    refine exec_answered hs .fallback (((s.doFallback_nil).trans (if_pos hlapsed)).trans ?_)
    rw [hst]
    rfl
  case accepted =>
    have hdo := s.doFallback_nil.trans (if_neg (by simp [hlapsed]))
    obtain ⟨hpending, hreset, hstraps, hreceivers, hstores, htiming, hexchange, hprotection, hsupervision, hentries⟩ :=
      lapseOperation_frame (s.enterLapsed .fallback) .fallback
    have hends := lapseOperation_ends (s.enterLapsed .fallback) .fallback
    have hreport := reported_lapseByRequest s
    have hu : s.lapseByRequest = _ := lapseByRequest_eq s
    generalize (s.enterLapsed .fallback).lapseOperation .fallback = w at *
    refine ⟨s.lapseByRequest, exec_answered hs .fallback hdo, ?_, ?_, ?occurred, hreport.grew, hreport.settings, ?_⟩
    case occurred =>
      refine (hreport.congr fun ev => ?_).occurred
      cases hop : s.operation with
      | none => cases ev <;> rfl
      | some op =>
        cases op with
        | switch => cases ev <;> rfl
        | resume => cases ev <;> rfl
        | copy seq src dst n => cases dst <;> cases ev <;> rfl
    all_goals simp only [hu, liveBank, isLapsed, currentBank, fields_raise, fields_withProtection]
    · exact hsupervision
    · rw [hsupervision]
      rfl
    · obtain ⟨hnone, hswitch, hcopyF, hcopy⟩ := hends
      refine ⟨hstraps, hreset, hpending, fun l hl i => ?_, fun hl => ?_, hnone, hswitch, hcopyF, hcopy, hreceivers,
        hstores, htiming, hexchange⟩
      · rw [protectFallback_of_latched ((congrArg Exchange.latched hexchange).trans hl), hentries]
        refine (Table.get_ofFn _ i).trans ?_
        rw [hprotection]
        rfl
      · rw [protectFallback_of_none ((congrArg Exchange.latched hexchange).trans hl), hprotection]
        rfl
end

section
/-!
The requests to the event unit (R175 to R179, R186).
-/

namespace Sys2Proof.Machine

open State

/-! ### The payload of READ_EVENTS (R179, R186) -/

/-- Pieces of one length stand at its multiples. -/
theorem drop_flatMap_of_length {α β : Type} {f : α → List β} {n : Nat} (h : ∀ a, (f a).length = n) (l : List α) (k : Nat) :
    (l.flatMap f).drop (n * k) = (l.drop k).flatMap f := by
  induction k generalizing l with
  | zero => rfl
  | succ k ih =>
    cases l with
    | nil => rw [List.flatMap_nil, List.drop_nil, List.drop_nil, List.flatMap_nil]
    | cons a l =>
      rw [List.flatMap_cons, List.drop_succ_cons, ← ih l, Nat.mul_succ, Nat.add_comm, ← List.drop_drop,
        List.drop_left' (h a)]

theorem extract_four (f : Fin 4 → BitVec 2) (k : Fin 4) :
    (f 0 ++ f 1 ++ f 2 ++ f 3).extractLsb' (6 - 2 * k.val) 2 = f k := by
  have hfields : ∀ a b c d : BitVec 2, (a ++ b ++ c ++ d).extractLsb' 6 2 = a ∧ (a ++ b ++ c ++ d).extractLsb' 4 2 = b
      ∧ (a ++ b ++ c ++ d).extractLsb' 2 2 = c ∧ (a ++ b ++ c ++ d).extractLsb' 0 2 = d := by decide
  obtain ⟨h0, h1, h2, h3⟩ := hfields (f 0) (f 1) (f 2) (f 3)
  match k with
  | 0 => exact h0
  | 1 => exact h1
  | 2 => exact h2
  | 3 => exact h3

namespace EventUnit

variable (u : EventUnit)

/-- The three octets of an event. -/
abbrev eventOctets (r : EventRecord) : List Byte := BitVec.ofNat 8 r.count :: octets r.detail

theorem payload_drop_event (e : Fin 16) :
    ∃ rest, u.payload.drop (8 + 3 * e.val) = eventOctets (u.records.get e) ++ rest := by
  refine ⟨(u.records.items.drop (e.val + 1)).flatMap eventOctets, ?_⟩
  have hsize : e.val < u.records.items.length := by rw [u.records.size]; exact e.isLt
  rw [← List.drop_drop, show u.payload.drop 8 = u.records.items.flatMap eventOctets from rfl,
    drop_flatMap_of_length (f := eventOctets) (n := 3) (fun _ => rfl), List.drop_eq_getElem_cons hsize]
  rfl

theorem length_payload : u.payload.length = 56 := by
  simp [payload, octets, u.records.size]

theorem byteAt_payload_notices (i : Fin 4) : byteAt u.payload (4 + i.val) = u.noticeOctet i := by
  match i with
  | 0 => rfl
  | 1 => rfl
  | 2 => rfl
  | 3 => rfl

theorem extract_noticeOctet (e : Fin 16) :
    (byteAt u.payload (4 + e.val / 4)).extractLsb' (6 - 2 * (e.val % 4)) 2 = (u.records.get e).notice.code := by
  have hi := u.byteAt_payload_notices ⟨e.val / 4, by omega⟩
  have hcode := extract_four (fun k => (u.records.get ⟨4 * (e.val / 4) + k.val, by omega⟩).notice.code)
    ⟨e.val % 4, by omega⟩
  rw [hi]
  refine hcode.trans ?_
  have he : (⟨4 * (e.val / 4) + e.val % 4, by omega⟩ : Fin 16) = e := Fin.ext (Nat.div_add_mod e.val 4)
  exact congrArg (fun j => (u.records.get j).notice.code) he

end EventUnit

namespace State

variable {s : State} {p : List Byte}

theorem doReadEvents_nil (s : State) : s.doReadEvents [] = ⟨.ok, s.events.payload, s⟩ := if_neg (not_not_intro rfl)

theorem doReadEvents_of_payload (h : p ≠ []) : s.doReadEvents p = refuse s .badLength := if_pos h

/-! ### ACK_EVENTS and SET_EVENTS (R175 to R178) -/

theorem withdraw_eq (s : State) (which : Fin 16 → Bool) : s.withdraw which = withdrawn s which s.events := by
  have htransmitter : (s.withdraw which).channel.transmitter = (withdrawn s which s.events).channel.transmitter := by
    simp only [withdraw, withdrawn, fields_withChannel, fields_withEvents]
    cases s.channel.transmitter with
    | idle => rfl
    | gap => rfl
    | sending it k a =>
      cases it with
      | response m => exact congrArg (Transmitter.sending _ k) (Bool.and_true a)
      | notice e m => rfl
  calc s.withdraw which
      = s.withChannel { (withdrawn s which s.events).channel with
          transmitter := (s.withdraw which).channel.transmitter } := rfl
    _ = withdrawn s which s.events := by rw [htransmitter]; rfl

theorem withdraw_withEvents (s : State) (which : Fin 16 → Bool) (e : EventUnit) :
    (s.withdraw which).withEvents e = withdrawn s which e := by
  rw [withdraw_eq]
  rfl

theorem doAckEvents_of_length (h : p.length ≠ 2) : s.doAckEvents p = refuse s .badLength := if_pos h

theorem doAckEvents_of_set (h : p.length = 2) :
    s.doAckEvents p = ⟨.ok, octets (s.acknowledge (halfAt p 0)).events.flags, s.acknowledge (halfAt p 0)⟩ :=
  if_neg (not_not_intro h)

/-- The named records are cleared and their notices withdrawn, before the room is handed out. -/
theorem acknowledge_eq (s : State) (set : BitVec 16) :
    s.acknowledge set = offerNotices (withdrawn s (fun e => set.getLsbD e.val)
      { s.events with
        records := Table.ofFn fun e => if set.getLsbD e.val then ⟨false, 0, 0, .none⟩ else s.record e }) := by
  rw [← withdraw_withEvents]
  rfl

theorem doSetEvents_of_length (h : p.length ≠ 3) : s.doSetEvents p = refuse s .badLength := if_pos h

theorem doSetEvents_of_mask (h : p.length = 3) :
    s.doSetEvents p =
      ⟨.ok, octets (s.setMask (halfAt p 0) (byteAt p 2)).events.mask ++
        [(s.setMask (halfAt p 0) (byteAt p 2)).events.interval], s.setMask (halfAt p 0) (byteAt p 2)⟩ :=
  if_neg (not_not_intro h)

/-- The part after the events that lose their mask bit have lost their notices (R176). -/
def maskLost (s : State) (mask : BitVec 16) (interval : Byte) : State :=
  withdrawn s (fun e => s.events.mask.getLsbD e.val && !mask.getLsbD e.val)
    { s.events with
      records := Table.ofFn fun e =>
        if s.events.mask.getLsbD e.val && !mask.getLsbD e.val then { s.record e with notice := .none } else s.record e
      mask := mask, interval := interval, renotify := 256 * interval.toNat }

/-- The part `v` after the set records that gain their mask bit have become OWED (R176); `old` is the mask before. -/
def maskGained (old mask : BitVec 16) (v : State) : State :=
  v.withEvents { v.events with
    records := Table.ofFn fun e =>
      if (!old.getLsbD e.val && mask.getLsbD e.val) = true ∧ (v.record e).flag = true ∧ (v.record e).notice = .none then
        { v.record e with notice := .owed }
      else v.record e }

theorem setMask_eq (s : State) (mask : BitVec 16) (interval : Byte) :
    s.setMask mask interval = offerNotices (maskGained s.events.mask mask (offerNotices (s.maskLost mask interval))) := by
  have hlost : s.maskLost mask interval = (s.withdraw _).withEvents _ := (withdraw_withEvents ..).symm
  rw [hlost, maskGained]
  simp only [setMask, EventUnit.mapRecords, Bool.and_eq_true, decide_eq_true_eq, and_assoc]
  rfl

end State

end Sys2Proof.Machine

open Sys2Proof Sys2Proof.Machine Sys2Proof.Machine.State

/-- Settles O42: each field of the payload at its place. -/
theorem readEventsReportsEveryRecord : Obligations.ReadEventsReportsEveryRecord := by
  intro s h p hs
  refine ⟨fun hp => ?_, fun hp => exec_answered hs .readEvents (doReadEvents_of_payload hp)⟩
  subst hp
  have hflags : halfAt s.events.payload 0 = s.events.flags := halfAt_of_drop_eq (i := 0) rfl
  refine ⟨s.events.payload, exec_answered hs .readEvents s.doReadEvents_nil, s.events.length_payload, fun e => ?_,
    halfAt_of_drop_eq (i := 2) rfl, fun e => ?_, fun e => ?_⟩
  · rw [hflags, EventUnit.getLsbD_flags]
    rfl
  · rw [EventUnit.extract_noticeOctet]
    show (s.record e).notice.code = _
    cases (s.record e).notice <;> rfl
  · obtain ⟨rest, hrest⟩ := s.events.payload_drop_event e
    refine ⟨?_, halfAt_of_drop_eq (rest := rest) ?_⟩
    · rw [show byteAt s.events.payload (8 + 3 * e.val) = byteAt (s.events.payload.drop (8 + 3 * e.val)) 0 from
        (byteAt_drop _ _ 0).symm, hrest]
      rfl
    · rw [show 9 + 3 * e.val = 8 + 3 * e.val + 1 by omega, ← List.drop_drop, hrest]
      rfl

/-- Settles O43: the flags that are left are those of the cleared records, which an offering keeps. -/
theorem ackEventsClearsTheNamedRecords : Obligations.AckEventsClearsTheNamedRecords := by
  intro s h p hs named cleared
  refine ⟨fun hlen => exec_answered hs .ackEvents (doAckEvents_of_length hlen), fun hlen => ?_⟩
  have hack : s.acknowledge (halfAt p 0) = cleared.offerNotices := acknowledge_eq s _
  obtain ⟨es, hes⟩ := offered_offerNotices cleared
  refine ⟨cleared.offerNotices, es, cleared.offerNotices.events.flags, ?_, hes, fun e => ?_⟩
  · rw [← hack]
    exact exec_answered hs .ackEvents (doAckEvents_of_set hlen)
  · have hflag := congrArg Prod.fst (facts_offerNotices cleared e)
    rw [EventUnit.getLsbD_flags]
    refine hflag.trans ((congrArg EventRecord.flag (Table.get_ofFn _ e)).trans ?_)
    cases named e
    · exact (Bool.and_true _).symm
    · exact (Bool.and_false _).symm

/-- Settles O44: the two offerings of SET_EVENTS, after the bits lost and after the bits gained. -/
theorem setEventsSetsMaskAndInterval : Obligations.SetEventsSetsMaskAndInterval := by
  intro s h p hs mask interval lost gained masked
  refine ⟨fun hlen => exec_answered hs .setEvents (doSetEvents_of_length hlen), fun hlen => ?_⟩
  obtain ⟨es, hes⟩ := offered_offerNotices masked
  obtain ⟨es', hes'⟩ := offered_offerNotices (maskGained s.events.mask mask masked.offerNotices)
  have hset : s.setMask (halfAt p 0) (byteAt p 2) = _ := setMask_eq s mask interval
  have hmask : (s.setMask (halfAt p 0) (byteAt p 2)).events.mask = mask
      ∧ (s.setMask (halfAt p 0) (byteAt p 2)).events.interval = interval := by
    obtain ⟨hm, hi, _⟩ := settings_offerFrom (List.finRange 16) masked
    obtain ⟨hm', hi', _⟩ :=
      settings_offerFrom (List.finRange 16) (maskGained s.events.mask mask masked.offerNotices)
    rw [hset]
    exact ⟨hm'.trans hm, hi'.trans hi⟩
  obtain ⟨hm, hi⟩ := hmask
  refine ⟨masked.offerNotices, es, _, es', ?_, hes, hes'⟩
  refine exec_answered hs .setEvents ((doSetEvents_of_mask hlen).trans ?_)
  rw [hm, hi, hset]
  rfl
end

section
/-!
RESTART, and the room in the transmit queue (R142, R145, R146, R154, R173).
-/

namespace Sys2Proof.Machine

open State

namespace State

variable {s : State} {p : List Byte}

/-! ### RESTART (R154) -/

theorem restarted_eq (s : State) : s.restarted = clearedByRestart s := by
  have hrecords : (Table.ofFn fun _ => EventRecord.clear : Table 16 EventRecord) = Table.fill 16 ⟨false, 0, 0, .none⟩ :=
    Table.ext_get fun e => by
      rw [Table.get_ofFn, Table.get_fill]
      rfl
  have htransmitter : (s.withdraw fun _ => true).channel.transmitter = (clearedByRestart s).channel.transmitter := by
    simp only [withdraw_eq, withdrawn, clearedByRestart, fields_withChannel, fields_withEvents, fields_withSupervision]
    cases s.channel.transmitter with
    | idle => rfl
    | gap => rfl
    | sending it k a =>
      cases it with
      | response m => rfl
      | notice e m => exact congrArg (Transmitter.sending _ k) (Bool.and_false a)
  unfold clearedByRestart
  rw [← hrecords]
  calc s.restarted
      = ((s.withChannel { (clearedByRestart s).channel with
            transmitter := (s.withdraw fun _ => true).channel.transmitter }).withEvents
          { s.events with records := Table.ofFn fun _ => EventRecord.clear }).withSupervision
          { s.supervision with lastPhase := none } := rfl
    _ = _ := by rw [htransmitter]; rfl

theorem doRestart_nil (s : State) : s.doRestart [] = ⟨.ok, [], clearedByRestart s⟩ := by
  rw [← restarted_eq]
  exact if_neg (not_not_intro rfl)

theorem doRestart_of_payload (h : p ≠ []) : s.doRestart p = refuse s .badLength := if_pos h

/-! ### The processor takes the requests that wait (R142) -/

/-- At most `n` requests wait. -/
abbrev requestsWithin (n : Nat) (s : State) : Prop := s.channel.requests.length ≤ n

namespace requestsWithin

variable {n : Nat}

theorem occurrences : KeptByOccurrences (requestsWithin n) where
  raised s ev d h := by
    obtain ⟨l, -, hchannel⟩ := (noticesOnly_raise s ev d).channel
    rw [requestsWithin, hchannel]
    exact h

theorem mgmtError {s : State} (h : s.requestsWithin n) (cause : MgmtCause) : (s.mgmtError cause).requestsWithin n :=
  occurrences.raise (s := s.withChannel { s.channel with rx := s.channel.rx.add cause }) _ _ h

theorem carriesLines : CarriesLines (requestsWithin n) where
  toKeptByOccurrences := occurrences
  aborted s h := by
    unfold assemblerLosesLock
    split
    · exact h
    · exact mgmtError (s := s.withAssembler .gap) h _
    · exact h
  receivers _ _ h := h
  stores _ _ h := h
  timing _ _ h := h

theorem carriesBanks : CarriesBanks (requestsWithin n) where
  toKeptByOccurrences := occurrences
  map _ _ h := h
  exchange _ _ h := h
  protection _ _ h := h
  operation _ _ h := h
  supervision _ _ h := h

theorem offerNotices {s : State} (h : s.requestsWithin n) : s.offerNotices.requestsWithin n := by
  obtain ⟨l, -, hchannel⟩ := (noticesOnly_offerNotices s).channel
  rw [requestsWithin, hchannel]
  exact h

/-- No execution makes the queue longer; a RESTART empties it. -/
theorem effect {s t : State} (h : s.requestsWithin n) (ht : s.Effect t) : t.requestsWithin n :=
  carriesBanks.effect (fun _ t => carriesLines.enableTrunk t) (fun _ t _ => carriesLines.disableTrunk t)
    (fun _ t => carriesLines.countOn t _) (fun _ l _ => carriesLines.replaceReferences l)
    (fun s set h => offerNotices (s := (s.withdraw _).clearRecords _) h)
    (fun s mask interval h => by
      rw [setMask_eq]
      exact offerNotices (offerNotices (s := s.maskLost mask interval) h))
    (fun _ _ => Nat.zero_le n) s t h ht

theorem complete {r : Request} {reply : Reply} (h : reply.state.requestsWithin n) :
    (State.complete r reply).requestsWithin n := by
  rw [complete_eq]
  exact h

theorem carryOut {s : State} (h : s.requestsWithin n) (r : Request) : (s.carryOut r).requestsWithin n :=
  complete (effect h (effect_execute s r))

end requestsWithin

/-- The processor's run with enough fuel. -/
theorem runProcessor_of_within {n : Nat} (h : s.requestsWithin n) : runProcessor n s = s.process := by
  have hfuel (k : Nat) : ∀ (n : Nat) (s : State), s.requestsWithin n → s.requestsWithin k →
      runProcessor n s = runProcessor k s := by
    induction k with
    | zero =>
      intro n s _ hk
      exact runProcessor_of_stopped n (.inr (List.length_eq_zero_iff.mp (Nat.le_zero.mp hk)))
    | succ k ih =>
      intro n s hn hk
      cases n with
      | zero =>
        exact (runProcessor_of_stopped (k + 1) (.inr (List.length_eq_zero_iff.mp (Nat.le_zero.mp hn)))).symm
      | succ n =>
        unfold runProcessor
        split
        next r rest hheld hrequests =>
          rw [requestsWithin, hrequests] at hn hk
          have hrest (m : Nat) (hm : rest.length ≤ m) :
              (s.withChannel { s.channel with requests := rest }).requestsWithin m := hm
          exact ih n _ ((hrest n (Nat.le_of_succ_le_succ hn)).carryOut r) ((hrest k (Nat.le_of_succ_le_succ hk)).carryOut r)
        next => rfl
  exact hfuel _ n s h le_rfl

/-- The processor in IDLE executes the oldest request, and goes on with what this leaves. -/
theorem process_of_waiting {r : Request} {rest : List Request} (hheld : s.channel.held = none)
    (hrequests : s.channel.requests = r :: rest) :
    s.process = ((s.withChannel { s.channel with requests := rest }).carryOut r).process := by
  have hrun : s.process = runProcessor rest.length ((s.withChannel { s.channel with requests := rest }).carryOut r) := by
    unfold process
    rw [hrequests, List.length_cons, runProcessor, hheld, hrequests]
  rw [hrun]
  exact runProcessor_of_within
    (requestsWithin.carryOut (s := s.withChannel { s.channel with requests := rest }) (Nat.le_refl rest.length) r)

theorem placeHeld_of_room {x : HeldResponse} (hheld : s.channel.held = some x) (hroom : s.channel.txQueue.length < 8) :
    s.placeHeld = State.process (s.withChannel
      { s.channel with held := none, txQueue := s.channel.txQueue ++ [.response x.response] }) := by
  unfold placeHeld
  rw [hheld]
  exact if_pos (decide_eq_true hroom)

theorem placeHeld_of_none (h : s.channel.held = none ∨ 8 ≤ s.channel.txQueue.length) : s.placeHeld = s := by
  unfold placeHeld
  split
  next hheld =>
    rcases h with h | h
    · exact nomatch hheld.symm.trans h
    · exact if_neg (by simpa [roomForResponse] using h)
  next => rfl

theorem execute_restart (s : State) {r : Request} (hcode : r.code = 0x03) (hp : r.payload = []) :
    s.execute r = ⟨.ok, [], clearedByRestart s⟩ := by
  unfold execute
  rw [hcode, show ReqKind.ofCode 0x03 = some .restart from rfl]
  show s.doRestart r.payload = _
  rw [hp, doRestart_nil]

end State

end Sys2Proof.Machine

open Sys2Proof Sys2Proof.Machine Sys2Proof.Machine.State

/-- Settles O14: the notice in transmission detached, and the items that are cleared. -/
theorem restartClearsChannelAndEvents : Obligations.RestartClearsChannelAndEvents := by
  intro s h p hs
  refine ⟨fun hp => ?_, fun hp => exec_answered hs .restart (doRestart_of_payload hp)⟩
  subst hp
  exact exec_answered hs .restart s.doRestart_nil

/-- Settles O45: the two commands of the transmit queue, and the processor by what waits in its queue. -/
theorem roomIsHandedOut : Obligations.RoomIsHandedOut := by
  refine ⟨fun s hreset => ?commands, fun s => ⟨process_of_stopped, fun r rest hheld hrequests => ?taken⟩⟩
  case commands =>
    have hoffer : exec .noticeOffer s = .next s.offerNotices := congrArg Host.Outcome.next (by rw [hreset]; rfl)
    have hplace : exec .heldResponsePlaced s = .next s.placeHeld.offerNotices :=
      congrArg Host.Outcome.next (by rw [hreset]; rfl)
    refine ⟨?_, fun x hheld hroom => ?_, fun hnone => ?_⟩
    · obtain ⟨es, hes⟩ := offered_offerNotices s
      exact ⟨_, es, hoffer, hes⟩
    · rw [placeHeld_of_room hheld hroom] at hplace
      obtain ⟨es, hes⟩ := offered_offerNotices (State.process (s.withChannel
        { s.channel with held := none, txQueue := s.channel.txQueue ++ [.response x.response] }))
      exact ⟨_, es, hplace, hes⟩
    · rw [placeHeld_of_none hnone] at hplace
      obtain ⟨es, hes⟩ := offered_offerNotices s
      exact ⟨_, es, hplace, hes⟩
  case taken =>
    refine ⟨process_of_waiting hheld hrequests, fun hcode hp => ?_⟩
    rw [process_of_waiting hheld hrequests, carryOut, execute_restart _ hcode hp]
    refine process_of_stopped (.inr ?_)
    rw [complete_eq]
    rfl
end

section
/-!
The frame as it is sent, and the words of a request as the receive assembler takes them (R39 to R43, R84, R131 to R136,
R183).
-/

namespace Sys2Proof.Machine

open State

/-! ### The frame (R84, R183) -/

theorem length_bitsOf {n : Nat} (w : BitVec n) : (bitsOf w).length = n := by
  rw [bitsOf, List.length_map, List.length_range]

theorem length_coveredBits (header : Word18) (slots : Table 32 Word18) : (coveredBits header slots).length = 594 := by
  simp [coveredBits, List.length_flatMap, length_bitsOf, slots.size]

theorem Qual.ofCode_code (q : Qual) : ofCode q.code = q := by cases q <;> rfl

theorem slotOfWord_slotWord (r : SlotRecord) : slotOfWord (slotWord r) = r := by
  rw [slotOfWord, slotWord, BitVec.extractLsb'_append_eq_left, BitVec.extractLsb'_append_eq_right, Qual.ofCode_code]

/-- The fields of a header word stand in their places. -/
theorem headerWord_reads : ∀ (count : BitVec 4) (fet fb : Bool),
    (bitsOf (headerWord count fet fb)).take 12 = alignmentBits ∧ headerPattern (headerWord count fet fb) = 0xD2B
    ∧ headerCount (headerWord count fet fb) = count ∧ headerFet (headerWord count fet fb) = fet
    ∧ headerFb (headerWord count fet fb) = fb := by
  decide

theorem trailerCheck_trailerWord (check : Half) :
    trailerCheck (trailerWord check) = check ∧ (trailerWord check).extractLsb' 0 2 = 0 :=
  ⟨BitVec.extractLsb'_append_eq_left, BitVec.extractLsb'_append_eq_right⟩

theorem frameRecord_sentFrame (count : BitVec 4) (fet fb : Bool) (slots : Table 32 SlotRecord) :
    frameRecord (sentFrame count fet fb slots) true = slots := by
  refine Table.ext_get fun i => ?_
  rw [frameRecord, Table.get_ofFn]
  show slotOfWord ((Table.ofFn fun i => slotWord (slots.get i)).get i) = slots.get i
  rw [Table.get_ofFn, slotOfWord_slotWord]

/-! ### The verdict on a message (R136) -/

/-- The length test on a message of this many words, whose length octet says `len` (R136 step 1). -/
abbrev lengthFits (words : List Half) : Prop :=
  3 ≤ words.length ∧ (byteAt (wordOctets words) 4).toNat ≤ 56 ∧
    (2 * words.length = 7 + (byteAt (wordOctets words) 4).toNat ∨ 2 * words.length = 8 + (byteAt (wordOctets words) 4).toNat)

theorem judge_eq (words : List Half) :
    State.judge words =
      let o := wordOctets words
      let len := (byteAt o 4).toNat
      if ¬ lengthFits words then .error .length
      else if crcOctets (o.take (5 + len)) ≠ halfAt o (5 + len) then .error .check
      else if ¬ (byteAt o 0).toNat < 64 then .error .kind
      else .ok ⟨(byteAt o 0).extractLsb' 0 4, byteAt o 1, byteAt o 2, (o.drop 5).take len, halfAt o (5 + len)⟩ := by
  have hkind (b : Byte) : b.extractLsb' 6 2 ≠ 0 ↔ ¬ b.toNat < 64 := by
    rw [ne_eq, not_iff_not, ← BitVec.toNat_inj, BitVec.extractLsb'_toNat, Nat.shiftRight_eq_div_pow,
      show (0 : BitVec 2).toNat = 0 from rfl]
    have := b.isLt
    omega
  unfold State.judge
  refine if_congr (by unfold lengthFits; omega) rfl (if_congr Iff.rfl rfl (if_congr (hkind _) rfl rfl))

namespace State

variable {s : State}

theorem evaluateMessage_of_error {words : List Half} {cause : MgmtCause} (h : judge words = .error cause) :
    s.evaluateMessage words = (s.withAssembler .gap).mgmtError cause := by
  simp only [evaluateMessage, h]

theorem evaluateMessage_of_ok {words : List Half} {r : Request} (h : judge words = .ok r) :
    s.evaluateMessage words = (s.withAssembler .gap).receiveRequest r := by
  simp only [evaluateMessage, h]

theorem takeWord_gap_data {w : SlotRecord} (ha : s.channel.assembler = .gap) (hw : w.qual = .data) :
    s.takeWord w = s.withAssembler (.collect [w.sample]) := by
  unfold takeWord
  rw [ha, hw]

theorem takeWord_gap {w : SlotRecord} (ha : s.channel.assembler = .gap) (hw : w.qual ≠ .data) : s.takeWord w = s := by
  unfold takeWord
  rw [ha]
  cases hq : w.qual
  case data => exact absurd hq hw
  all_goals rfl

theorem takeWord_discard_idle {w : SlotRecord} (ha : s.channel.assembler = .discard) (hw : w.qual = .idle) :
    s.takeWord w = s.withAssembler .gap := by
  unfold takeWord
  rw [ha, hw]

theorem takeWord_discard {w : SlotRecord} (ha : s.channel.assembler = .discard) (hw : w.qual ≠ .idle) :
    s.takeWord w = s := by
  unfold takeWord
  rw [ha]
  cases hq : w.qual
  case idle => exact absurd hq hw
  all_goals rfl

variable {words : List Half}

theorem takeWord_collect_data {w : SlotRecord} (ha : s.channel.assembler = .collect words) (hw : w.qual = .data) :
    s.takeWord w =
      if words.length < 32 then s.withAssembler (.collect (words ++ [w.sample]))
      else (s.withAssembler .discard).mgmtError .overlong := by
  unfold takeWord
  rw [ha, hw]

theorem takeWord_collect_idle {w : SlotRecord} (ha : s.channel.assembler = .collect words) (hw : w.qual = .idle) :
    s.takeWord w = s.evaluateMessage words := by
  unfold takeWord
  rw [ha, hw]

theorem takeWord_collect_fault {w : SlotRecord} (ha : s.channel.assembler = .collect words)
    (hw : w.qual = .fault ∨ w.qual = .fourth) : s.takeWord w = (s.withAssembler .gap).mgmtError .abort := by
  unfold takeWord
  rw [ha]
  rcases hw with hw | hw
  all_goals rw [hw]

/-! ### A request word by word (R131 to R133) -/

/-- Data words that still fit join the message. -/
theorem foldl_takeWord_collect (rest : List Half) (h : words.length + rest.length ≤ 32) :
    rest.foldl (fun u w => u.takeWord ⟨w, .data⟩) (s.withAssembler (.collect words)) =
      s.withAssembler (.collect (words ++ rest)) := by
  induction rest generalizing words with
  | nil => rw [List.append_nil]; rfl
  | cons w rest ih =>
    rw [List.length_cons] at h
    rw [List.foldl_cons, takeWord_collect_data (words := words) rfl rfl, if_pos (by omega)]
    refine (ih (words := words ++ [w]) ?_).trans ?_
    · rw [List.length_append, List.length_singleton]
      omega
    · rw [List.append_assoc]
      rfl

/-- A message of 1 to 32 data words, ended by an IDLE word, is evaluated. -/
theorem takeWords_eq_evaluateMessage (ha : s.channel.assembler = .gap) (hne : words ≠ []) (hlen : words.length ≤ 32) :
    (words.foldl (fun u w => u.takeWord ⟨w, .data⟩) s).takeWord ⟨0, .idle⟩ =
      (s.withAssembler (.collect words)).evaluateMessage words := by
  obtain ⟨w, rest, rfl⟩ := List.exists_cons_of_ne_nil hne
  rw [List.foldl_cons, takeWord_gap_data ha rfl, foldl_takeWord_collect (words := [w]) rest (by
    rw [List.length_cons] at hlen
    rw [List.length_singleton]
    omega)]
  exact takeWord_collect_idle rfl rfl

end State

/-! ### The octets of a request -/

/-- Octets 0 to 4 + L of a request (R132, R184). -/
def requestBody (r : Request) (status : Byte) : List Byte :=
  ((0#4) ++ r.unit : Byte) :: r.seq :: r.code :: status :: BitVec.ofNat 8 r.payload.length :: r.payload

theorem length_requestBody (r : Request) (status : Byte) : (requestBody r status).length = 5 + r.payload.length := by
  simp only [requestBody, List.length_cons]
  omega

/-- The octets of the words are the request's, and a pad octet where they are odd in number. -/
theorem wordOctets_requestWords (r : Request) (status pad : Byte) :
    ∃ tail, tail.length = (7 + r.payload.length) % 2 ∧
      wordOctets (requestWords r status pad) = requestBody r status ++ (octets r.check ++ tail) := by
  have hlen : (requestBody r status ++ octets r.check).length = 7 + r.payload.length := by
    rw [List.length_append, length_requestBody]
    simp only [octets, List.length_cons, List.length_nil]
    omega
  have hwords : requestWords r status pad =
      packWords (if (requestBody r status ++ octets r.check).length % 2 = 1
        then requestBody r status ++ octets r.check ++ [pad] else requestBody r status ++ octets r.check) := rfl
  rw [hwords, wordOctets_packWords, hlen]
  by_cases hodd : (7 + r.payload.length) % 2 = 1
  · refine ⟨[pad], hodd.symm, ?_⟩
    rw [if_pos hodd, padOctets, if_neg, List.append_nil, List.append_assoc]
    rw [List.length_append, hlen, List.length_singleton]
    omega
  · refine ⟨[], ?_, ?_⟩
    · rw [List.length_nil]
      omega
    · rw [if_neg hodd, padOctets, hlen, if_neg hodd, List.append_nil, List.append_nil]

/-- The receiver's verdict on the words of a request is that request (R136). -/
theorem judge_requestWords {r : Request} {status : Byte} (pad : Byte) (hpayload : r.payload.length ≤ 56)
    (hcheck : r.check = requestCheck r.unit r.seq r.code status r.payload) :
    State.judge (requestWords r status pad) = .ok r ∧ (requestWords r status pad).length ≤ 32
      ∧ requestWords r status pad ≠ [] := by
  obtain ⟨tail, htail, ho⟩ := wordOctets_requestWords r status pad
  have hbody := length_requestBody r status
  have hwords : 2 * (requestWords r status pad).length = 7 + r.payload.length + tail.length := by
    rw [← length_wordOctets, ho, List.length_append, List.length_append, hbody]
    simp only [octets, List.length_cons, List.length_nil]
    omega
  have hlen : (byteAt (wordOctets (requestWords r status pad)) 4).toNat = r.payload.length := by
    rw [ho]
    exact toNat_ofNat_of_lt (by omega)
  refine ⟨?_, by omega, fun hnil => ?_⟩
  · have hfits : lengthFits (requestWords r status pad) := by
      unfold lengthFits
      omega
    have htake : (requestBody r status ++ (octets r.check ++ tail)).take (5 + r.payload.length) = requestBody r status := by
      rw [← hbody]
      exact List.take_left
    have hhalf : halfAt (requestBody r status ++ (octets r.check ++ tail)) (5 + r.payload.length) = r.check := by
      rw [← hbody]
      exact halfAt_append_octets ..
    have hunit : ((0#4) ++ r.unit : Byte).toNat < 64 := by
      rw [toNat_append_eq_add]
      exact Nat.lt_of_lt_of_le (Nat.add_lt_add_left r.unit.isLt _) (by decide)
    rw [ho] at hlen
    rw [judge_eq]
    simp only [hlen, ho, htake, hhalf]
    have hcrc : crcOctets (requestBody r status) = r.check := hcheck.symm
    rw [if_neg (not_not_intro hfits), if_neg (not_not_intro hcrc)]
    refine (if_neg (not_not_intro hunit)).trans ?_
    have hpayloadBack : ((requestBody r status ++ (octets r.check ++ tail)).drop 5).take r.payload.length = r.payload :=
      List.take_left
    have hunitBack : ((0#4) ++ r.unit : Byte).extractLsb' 0 4 = r.unit := BitVec.extractLsb'_append_eq_right
    rw [hpayloadBack]
    exact congrArg (fun unit => Except.ok (Request.mk unit r.seq r.code r.payload r.check)) hunitBack
  · rw [hnil] at hwords
    rw [List.length_nil] at hwords
    omega

end Sys2Proof.Machine

open Sys2Proof Sys2Proof.Machine Sys2Proof.Machine.State

/-- Settles O50: the fields of the header, the slots and the trailer in their places. -/
theorem sentFrameReadsBack : Obligations.SentFrameReadsBack := by
  intro count fet fb slots f
  obtain ⟨hbits, hpattern, hcount, hfet, hfb⟩ := headerWord_reads count fet fb
  obtain ⟨hcheck, hspare⟩ := trailerCheck_trailerWord (frameCheck f.header f.slots)
  have hcovered := length_coveredBits f.header f.slots
  refine ⟨?_, ?_, hcovered, hpattern, hcount, hfet, hfb, frameRecord_sentFrame count fet fb slots, hspare, hcheck,
    beq_iff_eq.mpr hcheck.symm⟩
  · rw [frameBits, List.length_append, hcovered, length_bitsOf]
  · rw [frameBits, coveredBits, List.append_assoc, List.take_append_of_le_length]
    · exact hbits
    · rw [length_bitsOf]
      decide

/-- Settles O54: each word by the assembler's state, and the verdict on a message by the tests of R136. -/
theorem assemblerTakesWords : Obligations.AssemblerTakesWords := by
  intro s w goes fails rx
  refine ⟨fun ha => ⟨takeWord_gap_data ha, takeWord_gap ha⟩, fun ha => ⟨takeWord_discard_idle ha, takeWord_discard ha⟩,
    fun words ha => ⟨fun hw hlen => (takeWord_collect_data ha hw).trans (if_pos hlen),
      fun hw hlen => (takeWord_collect_data ha hw).trans (if_neg (by omega)), takeWord_collect_fault ha, fun hw => ?_⟩⟩
  intro o len lengthOk checkOk kindOk
  have hjudge := judge_eq words
  refine ⟨fun hlen => ?_, fun hlen hcheck => ?_, fun hlen hcheck hkind => ?_, fun hlen hcheck hkind => ?_⟩
  all_goals rw [takeWord_collect_idle ha hw]
  · exact evaluateMessage_of_error (hjudge.trans (if_pos hlen))
  · exact evaluateMessage_of_error ((hjudge.trans (if_neg (not_not_intro hlen))).trans (if_pos hcheck))
  · exact evaluateMessage_of_error (((hjudge.trans (if_neg (not_not_intro hlen))).trans
      (if_neg (not_not_intro hcheck))).trans (if_pos hkind))
  · exact evaluateMessage_of_ok (((hjudge.trans (if_neg (not_not_intro hlen))).trans
      (if_neg (not_not_intro hcheck))).trans (if_neg (not_not_intro hkind)))

/-- Settles O55: the words are collected, and the verdict on them is the request that was sent. -/
theorem requestSentWordByWordArrives : Obligations.RequestSentWordByWordArrives := by
  intro s r status pad hpayload hcheck ha u
  obtain ⟨hjudge, hlen, hne⟩ := judge_requestWords pad hpayload hcheck
  have hgap : (s.withAssembler (.collect (requestWords r status pad))).withAssembler .gap = s := by
    show s.withChannel { s.channel with assembler := .gap } = s
    rw [← ha]
    rfl
  have hu : u = s.receiveRequest r := by
    refine (takeWords_eq_evaluateMessage ha hne hlen).trans ((evaluateMessage_of_ok hjudge).trans ?_)
    rw [hgap]
  refine ⟨hu, fun i h hi hunit hseq hcheckEq hreset => ?_⟩
  rw [exec_of_bringsRequest hi, arrives_of_released hreset, hu, requestOf, hunit, hseq, hcheckEq]

end

section
/-!
The search for alignment and its verification (R88, R89).
-/

namespace Sys2Proof.Machine

open State

namespace Receiver

variable {r : Receiver}

theorem bitsOf_alignmentPattern : bitsOf alignmentPattern = alignmentBits := by decide

/-- The test of a position, where no more bits are held than were received (R88). -/
theorem patternAt_iff (h : r.held.length ≤ r.received) (pos : Nat) :
    r.patternAt pos = true ↔ patternStands r.held r.received pos := by
  simp only [patternAt, patternStands, bitsOf_alignmentPattern, Bool.and_eq_true, decide_eq_true_eq, beq_iff_eq]
  have hbits : alignmentBits.length = 12 := rfl
  constructor
  · rintro ⟨⟨hfirst, hlast⟩, hwindow⟩
    refine ⟨r.held.take (pos - (r.received - r.held.length)), r.held.drop (pos - (r.received - r.held.length) + 12), ?_, ?_⟩
    · rw [← hwindow, List.append_assoc, ← List.drop_drop, List.take_append_drop, List.take_append_drop]
    · rw [List.length_drop]
      omega
  · rintro ⟨a, b, hheld, hpos⟩
    have hlength : r.held.length = a.length + 12 + b.length := by
      rw [hheld, List.length_append, List.length_append, hbits]
    refine ⟨⟨by omega, by omega⟩, ?_⟩
    rw [show pos - (r.received - r.held.length) = a.length by omega, hheld, List.append_assoc, List.drop_left, ← hbits,
      List.take_left]

theorem findPattern_eq_some {pos : Nat} (hfrom : r.testFrom ≤ pos) (hpos : pos < r.received)
    (hpass : r.patternAt pos = true) (hfirst : ∀ q, r.testFrom ≤ q → q < pos → r.patternAt q ≠ true) :
    r.findPattern = some pos := by
  have hindex : (List.range (r.received - r.testFrom)).find? (r.patternAt ∘ (r.testFrom + ·)) =
      some (pos - r.testFrom) := by
    refine List.find?_range_eq_some.mpr ⟨?_, List.mem_range.mpr (by omega), fun j hj => ?_⟩
    · rwa [Function.comp_apply, Nat.add_sub_cancel' hfrom]
    · rw [Bool.not_eq_true', Function.comp_apply]
      exact Bool.eq_false_iff.mpr (hfirst _ (Nat.le_add_right ..) (by omega))
  rw [findPattern, List.find?_map, hindex, Option.map_some, Nat.add_sub_cancel' hfrom]

theorem findPattern_eq_none (h : ∀ q, r.testFrom ≤ q → r.patternAt q ≠ true) : r.findPattern = none := by
  rw [findPattern, List.find?_map, Option.map_eq_none_iff, List.find?_eq_none]
  exact fun j _ => h _ (Nat.le_add_right ..)

theorem search_of_some {pos : Nat} (h : r.findPattern = some pos) : r.search = { r with align := .verify pos 1 } := by
  unfold search
  rw [h]

theorem search_of_none (h : r.findPattern = none) : r.search = { r with testFrom := max r.testFrom (r.received - 11) } := by
  unfold search
  rw [h]

theorem trim_take (r : Receiver) (line : List Bool) : (r.take line).trim = taken r line := by
  simp only [trim, take, taken, heldLimit]

/-- Positions and alignment are no matter of the bits held. -/
theorem trim_with (r : Receiver) (a : Alignment) (pos : Nat) :
    ({ r with align := a, testFrom := pos } : Receiver).trim = { r.trim with align := a, testFrom := pos } := by
  simp only [trim]

theorem patternAt_take (hheld : r.held.length ≤ r.received) (line : List Bool) (pos : Nat) :
    (r.take line).patternAt pos = true ↔ patternStands (r.held ++ line) (r.received + line.length) pos := by
  refine patternAt_iff (r := r.take line) ?_ pos
  simp only [take, List.length_append]
  omega

/-- A receiver that takes bits and searches from a position, by the first position that passes (R88, R89). -/
theorem search_trim (hheld : r.held.length ≤ r.received) (line : List Bool) (a : Alignment) (start : Nat) :
    (∀ pos, start ≤ pos → patternStands (r.held ++ line) (r.received + line.length) pos →
      (∀ q, start ≤ q → q < pos → ¬ patternStands (r.held ++ line) (r.received + line.length) q) →
      ({ r.take line with align := a, testFrom := start } : Receiver).search.trim =
        { taken r line with align := .verify pos 1, testFrom := start }) ∧
    ((∀ q, start ≤ q → ¬ patternStands (r.held ++ line) (r.received + line.length) q) →
      ({ r.take line with align := a, testFrom := start } : Receiver).search.trim =
        { taken r line with align := a, testFrom := max start (r.received + line.length - 11) }) := by
  have hiff : ∀ q, ({ r.take line with align := a, testFrom := start } : Receiver).patternAt q = true ↔
      patternStands (r.held ++ line) (r.received + line.length) q := patternAt_take hheld line
  refine ⟨fun pos hstart hpos hfirst => ?_, fun hnone => ?_⟩
  · have hlt : pos < r.received + line.length := by
      obtain ⟨_, b, _, hb⟩ := hpos
      omega
    rw [search_of_some (findPattern_eq_some hstart hlt ((hiff pos).mpr hpos) fun q hq hlt hpass =>
      hfirst q hq hlt ((hiff q).mp hpass)), ← trim_take]
    exact trim_with (r.take line) _ _
  · rw [search_of_none (findPattern_eq_none fun q hq hpass => hnone q hq ((hiff q).mp hpass)), ← trim_take]
    exact trim_with (r.take line) _ _

end Receiver

namespace State

variable {s : State} {t : Trunk} {line : List Bool}

theorem exec_patternFound (h : s.resetHeld = false) : exec (.patternFound t line) s = .next (s.receiverSearches t line) :=
  congrArg Host.Outcome.next (if_neg (by simp [h]))

theorem exec_verifyBoundary (h : s.resetHeld = false) :
    exec (.verifyBoundary t line) s = .next (s.receiverVerifies t line) :=
  congrArg Host.Outcome.next (if_neg (by simp [h]))

theorem receiverSearches_of_search (halign : (s.receiver t).align = .search) (hsignal : (s.receiver t).signalPresent = true) :
    s.receiverSearches t line = s.setReceiver t ((s.receiver t).take line).search.trim :=
  if_pos ⟨halign, hsignal⟩

theorem receiverSearches_of_other (h : (s.receiver t).align ≠ .search ∨ (s.receiver t).signalPresent = false) :
    s.receiverSearches t line = s := by
  refine if_neg fun hsearch => ?_
  obtain ⟨halign, hsignal⟩ := hsearch
  rcases h with h | h
  · exact h halign
  · exact nomatch h.symm.trans hsignal

theorem receiverVerifies_of_verify {c n : Nat} (halign : (s.receiver t).align = .verify c n) :
    s.receiverVerifies t line =
      if ((s.receiver t).take line).received < c + 612 * n + 12 then s.setReceiver t ((s.receiver t).take line).trim
      else if ((s.receiver t).take line).patternAt (c + 612 * n) then
        if n < 2 then s.setReceiver t ({ (s.receiver t).take line with align := .verify c (n + 1) } : Receiver).trim
        else s.gainLock t ({ (s.receiver t).take line with align := .locked (c + 612 * n) 0 none } : Receiver).trim
      else s.setReceiver t ((((s.receiver t).take line).toSearch (c + 1)).search).trim := by
  unfold receiverVerifies
  simp only [halign]

theorem receiverVerifies_of_before {c n : Nat} (halign : (s.receiver t).align = .verify c n)
    (h : (s.receiver t).received + line.length < c + 612 * n + 12) :
    s.receiverVerifies t line = s.setReceiver t (taken (s.receiver t) line) := by
  rw [receiverVerifies_of_verify halign, ← Receiver.trim_take]
  exact if_pos h

theorem receiverVerifies_of_present {c n : Nat} (halign : (s.receiver t).align = .verify c n)
    (hheld : (s.receiver t).held.length ≤ (s.receiver t).received)
    (h : patternStands ((s.receiver t).held ++ line) ((s.receiver t).received + line.length) (c + 612 * n)) :
    s.receiverVerifies t line =
      if n < 2 then s.setReceiver t { taken (s.receiver t) line with align := .verify c (n + 1) }
      else s.gainLock t { taken (s.receiver t) line with align := .locked (c + 612 * n) 0 none } := by
  have hreached : ¬ ((s.receiver t).take line).received < c + 612 * n + 12 := by
    obtain ⟨_, b, _, hb⟩ := h
    simp only [Receiver.take]
    omega
  rw [receiverVerifies_of_verify halign, if_neg hreached, if_pos ((Receiver.patternAt_take hheld line _).mpr h),
    ← Receiver.trim_take]
  simp only [Receiver.trim]

theorem receiverVerifies_of_absent {c n : Nat} (halign : (s.receiver t).align = .verify c n)
    (hheld : (s.receiver t).held.length ≤ (s.receiver t).received)
    (hreached : c + 612 * n + 12 ≤ (s.receiver t).received + line.length)
    (h : ¬ patternStands ((s.receiver t).held ++ line) ((s.receiver t).received + line.length) (c + 612 * n)) :
    s.receiverVerifies t line =
      s.setReceiver t ({ (s.receiver t).take line with align := .search, testFrom := c + 1 } : Receiver).search.trim := by
  have hreached' : ¬ ((s.receiver t).take line).received < c + 612 * n + 12 := Nat.not_lt.mpr hreached
  rw [receiverVerifies_of_verify halign, if_neg hreached',
    if_neg (mt (Receiver.patternAt_take hheld line _).mp h)]
  rfl

theorem receiverVerifies_of_other (h : ∀ c n, (s.receiver t).align ≠ .verify c n) : s.receiverVerifies t line = s := by
  -- No alignment that `h` leaves matches the branch of VERIFY.
  simp only [receiverVerifies]

end State

end Sys2Proof.Machine

open Sys2Proof Sys2Proof.Machine Sys2Proof.Machine.State

/-- Settles O51: the test of a position is the spec's, and each command takes the branch its outcome names. -/
theorem searchAndVerifyFindAlignment : Obligations.SearchAndVerifyFindAlignment := by
  intro s t line hreset hheld r held n r'
  refine ⟨fun halign hsignal => ?search, fun hother => ?still, fun c k halign => ?verify, fun hother => ?idle⟩
  case still => rw [exec_patternFound hreset, receiverSearches_of_other hother]
  case idle => rw [exec_verifyBoundary hreset, receiverVerifies_of_other hother]
  case search =>
    rw [exec_patternFound hreset, receiverSearches_of_search halign hsignal]
    obtain ⟨hfound, hnone⟩ := Receiver.search_trim hheld line r.align r.testFrom
    refine ⟨fun pos hfrom hpos hfirst => ?_, fun hno => ?_⟩
    · exact congrArg (fun x => Host.Outcome.next (s.setReceiver t x)) (hfound pos hfrom hpos hfirst)
    · exact congrArg (fun x => Host.Outcome.next (s.setReceiver t x)) (hnone hno)
  case verify =>
    intro pos
    rw [exec_verifyBoundary hreset]
    refine ⟨fun hbefore => congrArg _ (receiverVerifies_of_before halign hbefore), fun hstands hk => ?counts,
      fun hstands hk => ?locks, fun hreached habsent => ?again⟩
    case counts => exact congrArg _ ((receiverVerifies_of_present halign hheld hstands).trans (if_pos hk))
    case locks => exact congrArg _ ((receiverVerifies_of_present halign hheld hstands).trans (if_neg (by omega)))
    case again =>
      rw [receiverVerifies_of_absent halign hheld hreached habsent]
      obtain ⟨hfound, hnone⟩ := Receiver.search_trim hheld line .search (c + 1)
      refine ⟨fun q hq hstands hfirst => ?_, fun hno => ?_⟩
      · exact congrArg (fun x => Host.Outcome.next (s.setReceiver t x)) (hfound q hq hstands hfirst)
      · exact congrArg (fun x => Host.Outcome.next (s.setReceiver t x)) (hnone hno)
end

section
/-!
The boundaries of a receiver in LOCKED, and the loss of LOCKED (R90 to R92).
-/

namespace Sys2Proof.Machine

open State

/-- A message is in COLLECT. -/
def Assembler.collecting : Assembler → Bool
  | .collect _ => true
  | _ => false

/-- The channel once its receiver has left LOCKED: a message in COLLECT is aborted and counted (R134). -/
def abortedChannel (c : Channel) : Channel :=
  { c with
    assembler := .gap
    rx := if c.assembler.collecting then { c.rx with aborts := satInc 65535 c.rx.aborts } else c.rx }

namespace State

variable {s : State}

/-- The abort is reported on the channel it leaves. -/
theorem assemblerLosesLock_aborts (s : State) :
    Reported (s.withChannel (abortedChannel s.channel)) s.assemblerLosesLock
      (fun ev => if .mgmtError = ev then if s.channel.assembler.collecting then [3] else [] else [])
    ∧ NoticesOnly (s.withChannel (abortedChannel s.channel)) s.assemblerLosesLock := by
  unfold assemblerLosesLock abortedChannel
  cases ha : s.channel.assembler with
  | gap =>
    have hsame : s.withChannel { s.channel with assembler := .gap, rx := s.channel.rx } = s := by
      rw [← ha]
      rfl
    refine ⟨?_, ?_⟩
    all_goals simp only [Assembler.collecting, Bool.false_eq_true, if_false, hsame]
    · exact (Reported.refl s).congr fun ev => (ite_self _).symm
    · exact .refl s
  | collect words => exact ⟨.raise _ _ _, noticesOnly_raise _ _ _⟩
  | discard => exact ⟨(Reported.refl _).congr fun ev => (ite_self _).symm, .refl _⟩

/-! ### The loss of LOCKED -/

/-- The part once a receiver has left LOCKED, but for the receive assembler. -/
def lockLeft (s : State) (t : Trunk) (r : Receiver) : State :=
  ((((s.setReceiver t r.clearFarEnd).countOn t .addLockLoss).raise .lockLost (trunkDetail t)).idleStore t).timingLosesTrunk t

theorem loseLock_eq (s : State) (t : Trunk) (r : Receiver) :
    s.loseLock t r = if t = s.mgmtTrunk then (s.lockLeft t r).assemblerLosesLock else s.lockLeft t r := by
  have hm : (((s.setReceiver t r.clearFarEnd).countOn t .addLockLoss).raise .lockLost (trunkDetail t)).mgmtTrunk =
      s.mgmtTrunk := by simp [mgmtTrunk, countOn, setReceiver]
  simp only [loseLock, neighboursLoseLock, hm]
  rfl

/-- The receiver that has lost LOCKED, in what this clears and counts (R92). -/
def lockLost (r : Receiver) : Receiver :=
  { r with
    lastFet := false
    farInFallback := false
    counters := { r.counters with lockLosses := satInc 65535 r.counters.lockLosses } }

theorem reported_lockLeft (s : State) (t : Trunk) (r : Receiver) :
    Reported s (s.lockLeft t r) (fun ev =>
      (if .lockLost = ev then [trunkDetail t] else []) ++
        if .referenceChange = ev then lossReports s (s.lockLeft t r) t else []) := by
  have hlost : Reported s
      (((s.setReceiver t r.clearFarEnd).countOn t .addLockLoss).raise .lockLost (trunkDetail t)) _ :=
    .of_silent_trans (.raise _ _ _)
  have htiming : (((s.setReceiver t r.clearFarEnd).countOn t .addLockLoss).raise .lockLost (trunkDetail t)).timing =
      s.timing := by simp [countOn, setReceiver]
  refine hlost.trans ?_
  have hleft := reported_loss
    (s := ((s.setReceiver t r.clearFarEnd).countOn t .addLockLoss).raise .lockLost (trunkDetail t))
    (u := (((s.setReceiver t r.clearFarEnd).countOn t .addLockLoss).raise .lockLost (trunkDetail t)).idleStore t)
    rfl rfl rfl t
  rwa [lossReports_congr htiming] at hleft

/-- What is left besides the event unit and the transmit queue. -/
theorem lockLeft_frame (s : State) (t : Trunk) (r : Receiver) :
    (∀ k, (s.lockLeft t r).receiver k = if k = t then lockLost r else s.receiver k)
    ∧ (∀ k, (s.lockLeft t r).store k = if k = t then .idle else s.store k)
    ∧ (s.lockLeft t r).timing = timingAfterLoss s t ∧ (s.lockLeft t r).map = s.map
    ∧ (s.lockLeft t r).exchange = s.exchange ∧ (s.lockLeft t r).protection = s.protection
    ∧ (s.lockLeft t r).operation = s.operation ∧ (s.lockLeft t r).supervision = s.supervision
    ∧ (s.lockLeft t r).straps = s.straps ∧ (s.lockLeft t r).resetHeld = s.resetHeld
    ∧ (s.lockLeft t r).pending = s.pending := by
  have hkept := noticesOnly_timingLosesTrunk
    ((((s.setReceiver t r.clearFarEnd).countOn t .addLockLoss).raise .lockLost (trunkDetail t)).idleStore t) t
  have htiming := timing_timingLosesTrunk
    ((((s.setReceiver t r.clearFarEnd).countOn t .addLockLoss).raise .lockLost (trunkDetail t)).idleStore t) t
  obtain ⟨hpending, hreset, hstraps, _, _, _, hmap, hexchange, hprotection, hoperation, hsupervision⟩ := hkept.fields
  refine ⟨fun k => (hkept.receiver k).trans ?_, fun k => (hkept.store k).trans ?_,
    htiming.trans (timingAfterLoss_congr ?_ t), hmap.trans ?_, hexchange.trans ?_, hprotection.trans ?_,
    hoperation.trans ?_, hsupervision.trans ?_, hstraps.trans ?_, hreset.trans ?_, hpending.trans ?_⟩
  case refine_1 =>
    show ((((s.setReceiver t r.clearFarEnd).countOn t .addLockLoss).raise .lockLost (trunkDetail t))).receiver k = _
    rw [receiver_raise, countOn, receiver_setReceiver, receiver_setReceiver_self, receiver_setReceiver]
    split
    · rfl
    · rfl
  case refine_2 =>
    show ((((s.setReceiver t r.clearFarEnd).countOn t .addLockLoss).raise .lockLost (trunkDetail t)).idleStore t).store k = _
    rw [idleStore, store_setStore, store_raise]
    rfl
  all_goals simp [idleStore, setStore, countOn, setReceiver]

/-- A receiver that loses LOCKED takes its neighbours with it (R92). -/
theorem lostLock_loseLock (s : State) (t : Trunk) (r : Receiver) : lostLock s (s.loseLock t r) t r := by
  have hreport := s.reported_lockLeft t r
  obtain ⟨hreceiver, hstore, htiming, hmap, hexchange, hprotection, hoperation, hsupervision, hstraps, hreset, hpending⟩ :=
    s.lockLeft_frame t r
  obtain ⟨l, hl, hchannel⟩ := hreport.grew
  unfold lostLock
  intro aborts
  have haborts : aborts = (decide (t = s.mgmtTrunk) && s.channel.assembler.collecting) := rfl
  have hothers (k : Trunk) (hk : k ≠ t) :
      (s.lockLeft t r).receiver k = s.receiver k ∧ (s.lockLeft t r).store k = s.store k :=
    ⟨(hreceiver k).trans (if_neg hk), (hstore k).trans (if_neg hk)⟩
  by_cases hm : t = s.mgmtTrunk
  · obtain ⟨habort, hkept⟩ := (s.lockLeft t r).assemblerLosesLock_aborts
    rw [loseLock_eq, if_pos hm]
    generalize s.lockLeft t r = w at *
    obtain ⟨m, hm', hchannel'⟩ := habort.grew
    obtain ⟨kpending, kreset, kstraps, _, _, ktiming, kmap, kexchange, kprotection, koperation, ksupervision⟩ := hkept.fields
    have hassembler : w.channel.assembler = s.channel.assembler := by rw [hchannel]
    have hoccurred : occurrences w w.assemblerLosesLock [] _ := habort.occurred
    refine ⟨(hkept.receiver t).trans ((hreceiver t).trans (if_pos rfl)), (hkept.store t).trans ((hstore t).trans (if_pos rfl)),
      ktiming.trans htiming, fun k hk => ?_, ⟨l ++ m, fun it hit => (List.mem_append.mp hit).elim (hl it) (hm' it), ?_⟩, ?_,
      settingsKept_trans hreport.settings habort.settings, kmap.trans hmap, kexchange.trans hexchange,
      kprotection.trans hprotection, koperation.trans hoperation, ksupervision.trans hsupervision, kstraps.trans hstraps,
      kreset.trans hreset, kpending.trans hpending⟩
    · obtain ⟨hr, hs⟩ := hothers k hk
      exact ⟨(hkept.receiver k).trans hr, (hkept.store k).trans hs⟩
    · rw [hchannel', if_pos hm, haborts, decide_eq_true hm, Bool.true_and]
      simp only [fields_withChannel, abortedChannel, hchannel, List.append_assoc]
    · have hall := occurrences_trans hreport.occurred hoccurred
      intro ev hev
      rw [hall ev hev, hassembler, haborts, decide_eq_true hm, Bool.true_and,
        show lossReports s w.assemblerLosesLock t = lossReports s w t by simp only [lossReports, ktiming, fields_withChannel]]
      cases ev
      case referenceChange => exact congrArg _ (List.append_nil _)
      all_goals rfl
  · rw [loseLock_eq, if_neg hm]
    refine ⟨(hreceiver t).trans (if_pos rfl), (hstore t).trans (if_pos rfl), htiming, hothers, ⟨l, hl, ?_⟩, ?_,
      hreport.settings, hmap, hexchange, hprotection, hoperation, hsupervision, hstraps, hreset, hpending⟩
    · rw [hchannel, if_neg hm, haborts, decide_eq_false hm, Bool.false_and]
      rfl
    · refine (hreport.congr fun ev => ?_).occurred
      rw [haborts, decide_eq_false hm, Bool.false_and]
      cases ev <;> rfl

/-! ### The commands (R90, R91) -/

theorem exec_lockedBoundary {t : Trunk} {window : BitVec 12} (h : s.resetHeld = false) :
    exec (.lockedBoundary t window) s = .next (s.receiverAtBoundary t window) :=
  congrArg Host.Outcome.next (if_neg (by simp [h]))

theorem exec_signalLoss {t : Trunk} (h : s.resetHeld = false) :
    exec (.signalLoss t) s = .next (s.receiverSignalLoss t) :=
  congrArg Host.Outcome.next (if_neg (by simp [h]))

theorem exec_signalReturn {t : Trunk} (h : s.resetHeld = false) :
    exec (.signalReturn t) s = .next (s.receiverSignalReturn t) :=
  congrArg Host.Outcome.next (if_neg (by simp [h]))

theorem receiverAtBoundary_of_locked {t : Trunk} {window : BitVec 12} {c miss : Nat} {rem : Option (BitVec 4)}
    (h : (s.receiver t).align = .locked c miss rem) :
    s.receiverAtBoundary t window =
      if window = alignmentPattern then
        s.setReceiver t { taken (s.receiver t) (bitsOf window) with align := .locked (c + 612) 0 rem }
      else if miss < 3 then
        s.setReceiver t { taken (s.receiver t) (bitsOf window) with align := .locked (c + 612) (miss + 1) rem }
      else
        s.loseLock t { taken (s.receiver t) (bitsOf window) with align := .search, testFrom := c + 613 } := by
  unfold receiverAtBoundary
  simp only [h, Receiver.trim_take]
  rfl

theorem receiverAtBoundary_of_other {t : Trunk} {window : BitVec 12}
    (h : ∀ c miss rem, (s.receiver t).align ≠ .locked c miss rem) : s.receiverAtBoundary t window = s := by
  -- No alignment that `h` leaves matches the branch of LOCKED.
  simp only [receiverAtBoundary]

theorem receiverSignalLoss_of_unwatched {t : Trunk}
    (h : (s.receiver t).align = .disabled ∨ (s.receiver t).signalPresent = false) : s.receiverSignalLoss t = s :=
  if_pos h

theorem receiverSignalLoss_of_watched {t : Trunk} (hsignal : (s.receiver t).signalPresent = true)
    (henabled : (s.receiver t).align ≠ .disabled) :
    s.receiverSignalLoss t =
      if (s.receiver t).isLocked then s.loseLock t { s.receiver t with align := .search, signalPresent := false }
      else s.setReceiver t { s.receiver t with align := .search, signalPresent := false } :=
  if_neg fun h => h.elim henabled (by simp [hsignal])

theorem receiverSignalReturn_of_present {t : Trunk} (h : (s.receiver t).signalPresent = true) :
    s.receiverSignalReturn t = s :=
  if_pos h

theorem receiverSignalReturn_of_absent {t : Trunk} (h : (s.receiver t).signalPresent = false) :
    s.receiverSignalReturn t =
      s.setReceiver t { s.receiver t with signalPresent := true, testFrom := (s.receiver t).received } :=
  if_neg (by simp [h])

end State

end Sys2Proof.Machine

open Sys2Proof Sys2Proof.Machine Sys2Proof.Machine.State

/-- Settles O52: boundaries by pattern and miss count, the loss and the return of the signal. -/
theorem missesAndSignalLossEndAlignment : Obligations.MissesAndSignalLossEndAlignment := by
  intro s t hreset r
  refine ⟨fun c miss rem window halign => ?boundary, fun window hother => ?other, fun hunwatched => ?unwatched,
    fun hsignal halign => ?unlocked, fun hsignal halign => ?lost, fun hsignal => ?returned, fun hsignal => ?present⟩
  case boundary =>
    intro r'
    rw [exec_lockedBoundary hreset, receiverAtBoundary_of_locked halign]
    refine ⟨fun hpattern => congrArg _ (if_pos hpattern),
      fun hpattern hmiss => congrArg _ ((if_neg hpattern).trans (if_pos hmiss)), fun hpattern hmiss => ⟨_, rfl, ?_⟩⟩
    rw [if_neg (show window ≠ alignmentPattern from hpattern), if_neg (Nat.not_lt.mpr hmiss)]
    exact lostLock_loseLock s t _
  case other => rw [exec_lockedBoundary hreset, receiverAtBoundary_of_other hother]
  case unwatched => rw [exec_signalLoss hreset, receiverSignalLoss_of_unwatched hunwatched]
  case unlocked =>
    have hunlocked : r.isLocked ≠ true ∧ r.align ≠ .disabled := by
      rcases halign with halign | ⟨c, k, halign⟩
      all_goals simp [Receiver.isLocked, halign]
    obtain ⟨hlocked, henabled⟩ := hunlocked
    rw [exec_signalLoss hreset, receiverSignalLoss_of_watched hsignal henabled, if_neg hlocked]
  case lost =>
    obtain ⟨c, miss, rem, halign⟩ := halign
    have hlocked := Receiver.isLocked_of_align halign
    refine ⟨_, exec_signalLoss hreset, ?_⟩
    rw [receiverSignalLoss_of_watched hsignal (by rw [halign]; nofun), if_pos hlocked]
    exact lostLock_loseLock s t _
  case returned => rw [exec_signalReturn hreset, receiverSignalReturn_of_absent hsignal]
  case present => rw [exec_signalReturn hreset, receiverSignalReturn_of_present hsignal]

end

section
/-!
The delivery of a frame (R93 to R98, R106, R107, R112, R119, R120, R123, R127).
-/

namespace Sys2Proof.Machine

open State

/-! ### What a request cannot move -/

/-- The clocks of the timing unit and the straps read as in `tm` and `pins`. -/
structure SameClock (tm : Timing) (pins : Straps) (s : State) : Prop where
  counter : s.timing.counter = tm.counter
  now : s.timing.now = tm.now
  lastStart : s.timing.lastStart = tm.lastStart
  straps : s.straps = pins

namespace SameClock

variable {tm : Timing} {pins : Straps} {s u : State}

theorem refl (s : State) : SameClock s.timing s.straps s := ⟨rfl, rfl, rfl, rfl⟩

theorem congr (h : SameClock tm pins s) (htiming : u.timing = s.timing) (hstraps : u.straps = s.straps) :
    SameClock tm pins u :=
  ⟨htiming ▸ h.counter, htiming ▸ h.now, htiming ▸ h.lastStart, hstraps ▸ h.straps⟩

theorem noticesOnly (h : SameClock tm pins s) (hu : NoticesOnly s u) : SameClock tm pins u := by
  obtain ⟨_, _, hstraps, _, _, htiming, _⟩ := hu.fields
  exact h.congr htiming hstraps

theorem bankFree : BankFree (SameClock tm pins) where
  channel _ _ h := h.congr rfl rfl
  events _ _ h := h.congr rfl rfl
  map _ _ h := h.congr rfl rfl
  exchange _ _ h := h.congr rfl rfl
  protection _ _ h := h.congr rfl rfl
  operation _ _ h := h.congr rfl rfl
  supervision _ _ h := h.congr rfl rfl

theorem evaluateReference (h : SameClock tm pins s) : SameClock tm pins s.evaluateReference := by
  obtain ⟨_, _, hcounter, hnow, hlast⟩ := s.timing.evaluate_frame
  refine noticesOnly (s := s.withTiming s.timing.evaluate) ?_ (noticesOnly_evaluateReference s)
  exact ⟨hcounter.trans h.counter, hnow.trans h.now, hlast.trans h.lastStart, h.straps⟩

theorem timingLosesTrunk (h : SameClock tm pins s) (t : Trunk) : SameClock tm pins (s.timingLosesTrunk t) := by
  have hgiven : SameClock tm pins (s.withTiming (s.timing.givesUp t)) := by
    unfold Timing.givesUp
    split
    · exact ⟨h.counter, h.now, h.lastStart, h.straps⟩
    · exact ⟨h.counter, h.now, h.lastStart, h.straps⟩
  rw [timingLosesTrunk_eq]
  split
  · exact hgiven.evaluateReference
  · exact hgiven

theorem neighboursLoseLock (h : SameClock tm pins s) (t : Trunk) : SameClock tm pins (s.neighboursLoseLock t) := by
  have hleft : SameClock tm pins ((s.idleStore t).timingLosesTrunk t) :=
    timingLosesTrunk (s := s.idleStore t) (h.congr rfl rfl) t
  simp only [State.neighboursLoseLock]
  split
  · exact bankFree.assemblerLosesLock hleft
  · exact hleft

theorem loseLock (h : SameClock tm pins s) (t : Trunk) (r : Receiver) : SameClock tm pins (s.loseLock t r) :=
  neighboursLoseLock ((h.congr (u := (s.setReceiver t r.clearFarEnd).countOn t .addLockLoss) rfl rfl).noticesOnly
    (noticesOnly_raise _ _ _)) t

theorem enableTrunk (h : SameClock tm pins s) (t : Trunk) : SameClock tm pins (s.enableTrunk t) := by
  simp only [State.enableTrunk]
  split
  · exact h.congr rfl rfl
  · exact h

theorem disableTrunk (h : SameClock tm pins s) (t : Trunk) : SameClock tm pins (s.disableTrunk t) := by
  simp only [State.disableTrunk]
  split
  · exact neighboursLoseLock (s := s.setReceiver t _) (h.congr rfl rfl) t
  · exact h.congr rfl rfl

theorem keptByRequests : KeptByRequests (SameClock tm pins) :=
  bankFree.effect (fun _ t h => h.enableTrunk t) (fun _ t _ h => h.disableTrunk t) (fun _ _ h => h.congr rfl rfl)
    (fun s l _ h => evaluateReference (s := s.withTiming { s.timing with refList := l })
      ⟨h.counter, h.now, h.lastStart, h.straps⟩)

theorem countDelivery (h : SameClock tm pins s) (t : Trunk) : SameClock tm pins (s.countDelivery t) := by
  have hcounted : SameClock tm pins (s.withTiming (s.timing.counted t)) := ⟨h.counter, h.now, h.lastStart, h.straps⟩
  rw [countDelivery_eq]
  split
  · exact hcounted.evaluateReference
  · exact hcounted

theorem passTime (s : State) (elapsed : Nat) : SameClock (s.passTime elapsed).timing s.straps (s.passTime elapsed) :=
  ⟨rfl, rfl, rfl, rfl⟩

end SameClock

/-! ### The hand-over test of a delivery (R119, R127) -/

theorem framePeriod_eq (s : State) : Config.nominalPeriod s.profile = framePeriod s := by
  unfold framePeriod State.profile profileOf
  split
  · rfl
  · split
    · rfl
    · rfl

namespace Timing

variable {tm : Timing} {t : Trunk} {p : Config.Profile}

theorem takeDelivery_of_other (h : ∀ soon, tm.handOver ≠ some ⟨t, soon⟩) : tm.takeDelivery t p = tm.oweStart t p := by
  unfold takeDelivery
  split
  next x hx => exact if_neg fun ht => h x.tooSoon (hx.trans (by rw [← ht]))
  next => rfl

theorem takeDelivery_of_second (h : tm.handOver = some ⟨t, true⟩) : tm.takeDelivery t p = tm.handOverTo t p := by
  unfold takeDelivery
  rw [h]
  exact if_pos rfl

theorem takeDelivery_of_first (h : tm.handOver = some ⟨t, false⟩) :
    tm.takeDelivery t p =
      if Config.nominalPeriod p ≤ 2 * (tm.startMoment p - tm.lastStart) then tm.handOverTo t p
      else { tm with handOver := some ⟨t, true⟩, owed := none } := by
  unfold takeDelivery
  rw [h]
  exact if_pos rfl

theorem oweStart_of_source (hsource : tm.source = .trunk t) (hgoes : ¬ sourceStopped tm) :
    tm.oweStart t p = { tm with owed := some (tm.startMoment p) } :=
  if_pos ⟨hsource, Bool.eq_false_iff.mpr (mt (stopped_iff tm).mp hgoes)⟩

theorem oweStart_of_other (h : tm.source ≠ .trunk t ∨ sourceStopped tm) : tm.oweStart t p = tm := by
  refine if_neg fun howes => ?_
  obtain ⟨hsource, hgoes⟩ := howes
  rcases h with h | h
  · exact h hsource
  · exact nomatch hgoes.symm.trans ((stopped_iff tm).mpr h)

end Timing

/-! ### The receiver and its occurrences (R93 to R98) -/

namespace Receiver

/-- What a frame leaves in its receiver, by whether it is trusted and passes its check (R94 to R98). -/
theorem afterFrame_spelled (r : Receiver) (c miss : Nat) (rem : Option (BitVec 4)) (f : WireFrame) :
    r.afterFrame c miss rem f =
      { taken r ((frameBits f).drop 12) with
        align := .locked c miss (if trusts miss f then some (headerCount f.header) else rem.map (· + 1))
        lastFet := if trusts miss f then headerFet f.header else r.lastFet
        farInFallback := if trusts miss f then headerFb f.header else r.farInFallback
        counters := { r.counters with
          checkErrors := if checkPasses f then r.counters.checkErrors else satInc 65535 r.counters.checkErrors
          sequenceGaps :=
            if trusts miss f && sequenceBreaks rem (headerCount f.header) then satInc 65535 r.counters.sequenceGaps
            else r.counters.sequenceGaps } } := by
  have htake : r.takeFrame f = taken r ((frameBits f).drop 12) := trim_take r _
  have hcounters : r.counters = (taken r ((frameBits f).drop 12)).counters := rfl
  have hfet : r.lastFet = (taken r ((frameBits f).drop 12)).lastFet := rfl
  have hfar : r.farInFallback = (taken r ((frameBits f).drop 12)).farInFallback := rfl
  rw [afterFrame_eq, checkedFrame, htake, hcounters, hfet, hfar]
  generalize taken r ((frameBits f).drop 12) = u
  cases trusts miss f with
  | false =>
    cases checkPasses f with
    | false => rfl
    | true => rfl
  | true =>
    simp only [afterTrusted]
    cases checkPasses f with
    | false =>
      cases sequenceBreaks rem (headerCount f.header) with
      | false => rfl
      | true => rfl
    | true =>
      cases sequenceBreaks rem (headerCount f.header) with
      | false => rfl
      | true => rfl

end Receiver

/-- The REFERENCE_CHANGE of a timer state that follows another (R128). -/
def referenceReports (old new : TimerState) : List Half :=
  if Timing.reports old new then [referenceReport new] else []

theorem referenceReports_of_same {old new : TimerState} (h : sameReference old new) : referenceReports old new = [] :=
  if_neg fun hr => (reports_iff old new).mp hr h

theorem referenceReports_of_changed {old new : TimerState} (h : ¬ sameReference old new) :
    referenceReports old new = [referenceReport new] :=
  if_pos ((reports_iff old new).mpr h)

theorem sameReference_refl (st : TimerState) : sameReference st st := by cases st <;> trivial

namespace State

variable {s : State}

theorem reported_retime (s : State) (tm : Timing) :
    Reported s (s.retime tm)
      (fun ev => if .referenceChange = ev then referenceReports s.timing.state tm.state else []) := by
  by_cases h : sameReference s.timing.state tm.state
  · rw [referenceReports_of_same h, retime_of_same h]
    exact (Reported.of_silent (s := s) (t := s.withTiming tm) rfl rfl).congr fun ev => (ite_self _).symm
  · rw [referenceReports_of_changed h]
    exact reported_retime_of_changed h

theorem timing_countDelivery (s : State) (t : Trunk) :
    (s.countDelivery t).timing =
      if s.timing.delivered.get t = 63 ∧ t ∈ s.timing.refList then (s.timing.counted t).evaluate
      else s.timing.counted t := by
  rw [countDelivery_eq, apply_ite State.timing, timing_evaluateReference]
  rfl

theorem reported_countDelivery (s : State) (t : Trunk) :
    Reported s (s.countDelivery t) (fun ev =>
      if .referenceChange = ev then referenceReports s.timing.state (s.countDelivery t).timing.state else []) := by
  rw [timing_countDelivery, countDelivery_eq]
  split
  · exact .of_silent_trans (reported_retime (s.withTiming (s.timing.counted t)) _)
  · rw [referenceReports_of_same (show sameReference s.timing.state (s.timing.counted t).state from sameReference_refl _)]
    exact (Reported.of_silent (s := s) (t := s.withTiming (s.timing.counted t)) rfl rfl).congr
      fun ev => (ite_self _).symm

theorem noticesOnly_countDelivery (s : State) (t : Trunk) :
    NoticesOnly (s.withTiming (s.countDelivery t).timing) (s.countDelivery t) := by
  rw [timing_countDelivery, countDelivery_eq]
  split
  · exact noticesOnly_evaluateReference (s.withTiming (s.timing.counted t))
  · exact .refl _

/-! ### The store (R106, R107, R112) -/

variable {t : Trunk} {fr : FrameRecord}

theorem storeDelivery_of_idle (h : (s.store t).phase = .idle) : s.storeDelivery t fr = s := by
  simp only [storeDelivery, h]

theorem storeDelivery_of_priming (h : (s.store t).phase = .priming) :
    s.storeDelivery t fr =
      s.setStore t ⟨if 2 ≤ (s.store t).queue.length + 1 then .running else .priming, (s.store t).queue ++ [fr],
        (s.store t).current⟩ := by
  simp only [storeDelivery, h]

theorem storeDelivery_of_room (h : (s.store t).phase = .running) (hroom : (s.store t).queue.length < 3) :
    s.storeDelivery t fr = s.setStore t ⟨.running, (s.store t).queue ++ [fr], (s.store t).current⟩ := by
  simp only [storeDelivery, h, if_pos hroom]

theorem storeDelivery_of_full {y : FrameRecord} {rest : List FrameRecord} (h : (s.store t).phase = .running)
    (hqueue : (s.store t).queue = y :: rest) (hfull : 2 ≤ rest.length) :
    s.storeDelivery t fr =
      ((s.setStore t ⟨.running, rest ++ [fr], (s.store t).current⟩).countOn t .addDropSlip).raise
        .slip (slipDetail false t) := by
  have hlength : ¬ (y :: rest).length < 3 := by
    rw [List.length_cons]
    omega
  simp only [storeDelivery, h, hqueue, if_neg hlength, List.drop_succ_cons, List.drop_zero]

/-! ### The command (R93) -/

theorem exec_frameDelivery {f : WireFrame} {elapsed : Nat} (h : s.resetHeld = false) :
    exec (.frameDelivery t f elapsed) s = .next (s.deliverFrame t f elapsed) :=
  congrArg Host.Outcome.next (if_neg (by simp [h]))

theorem deliverFrame_of_other {f : WireFrame} {elapsed : Nat} (h : ∀ c miss rem, (s.receiver t).align ≠ .locked c miss rem) :
    s.deliverFrame t f elapsed = s := by
  -- No alignment that `h` leaves matches the branch of LOCKED.
  simp only [deliverFrame]

/-- The part once a delivered frame has been judged and counted, before its word and its record go on. -/
def judged (s : State) (t : Trunk) (c miss : Nat) (rem : Option (BitVec 4)) (f : WireFrame) (elapsed : Nat) : State :=
  (((s.passTime elapsed).setReceiver t ((s.receiver t).afterFrame c miss rem f)).raiseAll
    (deliveryEvents (s.receiver t) t miss f)).countDelivery t

theorem deliverFrame_of_locked {c miss : Nat} {rem : Option (BitVec 4)} (f : WireFrame) (elapsed : Nat)
    (h : (s.receiver t).align = .locked c miss rem) :
    s.deliverFrame t f elapsed =
      ((if t = s.mgmtTrunk then
          (s.judged t c miss rem f elapsed).takeWord ((frameRecord f (Receiver.trusts miss f)).get 31)
        else s.judged t c miss rem f elapsed).followDelivery t).storeDelivery t
          (frameRecord f (Receiver.trusts miss f)) := by
  have hm : (((s.passTime elapsed).setReceiver t ((s.receiver t).afterFrame c miss rem f)).raiseAll
      (deliveryEvents (s.receiver t) t miss f)).mgmtTrunk = s.mgmtTrunk := by
    simp [mgmtTrunk, setReceiver, passTime]
  simp only [deliverFrame, h, handOnFrame, hm]
  rfl

theorem sameClock_judged (s : State) (t : Trunk) (c miss : Nat) (rem : Option (BitVec 4)) (f : WireFrame) (elapsed : Nat) :
    SameClock (s.passTime elapsed).timing s.straps (s.judged t c miss rem f elapsed) := by
  refine SameClock.countDelivery (SameClock.noticesOnly ?_ (noticesOnly_raiseAll _ _)) t
  exact (SameClock.passTime s elapsed).congr rfl rfl

/-- The occurrences of a delivery at its receiver, event by event (R94, R97). -/
def deliveryReports (r : Receiver) (t : Trunk) (miss : Nat) (f : WireFrame) : Event → List Half
  | .checkError => if checkPasses f then [] else [trunkDetail t]
  | .farEndTrouble => if Receiver.trusts miss f && headerFet f.header && !r.lastFet then [trunkDetail t] else []
  | _ => []

theorem deliveryEvents_reports (r : Receiver) (t : Trunk) (miss : Nat) (f : WireFrame) (ev : Event) :
    ((deliveryEvents r t miss f).filter fun y => y.1 == ev).map Prod.snd = deliveryReports r t miss f ev := by
  unfold deliveryEvents deliveryReports
  generalize checkPasses f = passes, (Receiver.trusts miss f && headerFet f.header && !r.lastFet) = rises
  cases passes <;> cases rises <;> cases ev <;> rfl

theorem reported_judged (s : State) (t : Trunk) (c miss : Nat) (rem : Option (BitVec 4)) (f : WireFrame) (elapsed : Nat) :
    Reported s (s.judged t c miss rem f elapsed) (fun ev =>
      deliveryReports (s.receiver t) t miss f ev ++
        if .referenceChange = ev then referenceReports s.timing.state (s.judged t c miss rem f elapsed).timing.state
        else []) := by
  have hraised := (Reported.raiseAll (deliveryEvents (s.receiver t) t miss f)
    ((s.passTime elapsed).setReceiver t ((s.receiver t).afterFrame c miss rem f))).congr
      (deliveryEvents_reports (s.receiver t) t miss f)
  have hstate : (((s.passTime elapsed).setReceiver t ((s.receiver t).afterFrame c miss rem f)).raiseAll
      (deliveryEvents (s.receiver t) t miss f)).timing.state = s.timing.state := by
    simp [setReceiver, passTime]
  have hcounted := reported_countDelivery (((s.passTime elapsed).setReceiver t
    ((s.receiver t).afterFrame c miss rem f)).raiseAll (deliveryEvents (s.receiver t) t miss f)) t
  rw [hstate] at hcounted
  exact (Reported.of_silent_trans hraised).trans hcounted

theorem judged_frame (s : State) (t : Trunk) (c miss : Nat) (rem : Option (BitVec 4)) (f : WireFrame) (elapsed : Nat) :
    (∀ k, (s.judged t c miss rem f elapsed).receiver k =
      if k = t then (s.receiver t).afterFrame c miss rem f else s.receiver k)
    ∧ (s.judged t c miss rem f elapsed).stores = s.stores
    ∧ (s.judged t c miss rem f elapsed).timing =
        (if s.timing.delivered.get t = 63 ∧ t ∈ s.timing.refList then
          (Timing.counted { s.timing with now := s.timing.now + elapsed } t).evaluate
        else Timing.counted { s.timing with now := s.timing.now + elapsed } t)
    ∧ (s.judged t c miss rem f elapsed).map = s.map ∧ (s.judged t c miss rem f elapsed).exchange = s.exchange
    ∧ (s.judged t c miss rem f elapsed).protection = s.protection
    ∧ (s.judged t c miss rem f elapsed).operation = s.operation
    ∧ (s.judged t c miss rem f elapsed).supervision = s.supervision
    ∧ (s.judged t c miss rem f elapsed).straps = s.straps ∧ (s.judged t c miss rem f elapsed).resetHeld = s.resetHeld
    ∧ (s.judged t c miss rem f elapsed).pending = s.pending := by
  have hkept := noticesOnly_countDelivery (((s.passTime elapsed).setReceiver t
    ((s.receiver t).afterFrame c miss rem f)).raiseAll (deliveryEvents (s.receiver t) t miss f)) t
  have htiming := timing_countDelivery (((s.passTime elapsed).setReceiver t
    ((s.receiver t).afterFrame c miss rem f)).raiseAll (deliveryEvents (s.receiver t) t miss f)) t
  have hbefore : (((s.passTime elapsed).setReceiver t ((s.receiver t).afterFrame c miss rem f)).raiseAll
      (deliveryEvents (s.receiver t) t miss f)).timing = { s.timing with now := s.timing.now + elapsed } := by
    simp [setReceiver, passTime]
  rw [hbefore] at htiming
  obtain ⟨hpending, hreset, hstraps, _, hstores, _, hmap, hexchange, hprotection, hoperation, hsupervision⟩ := hkept.fields
  refine ⟨fun k => (hkept.receiver k).trans ?_, hstores.trans ?_, htiming, hmap.trans ?_, hexchange.trans ?_,
    hprotection.trans ?_, hoperation.trans ?_, hsupervision.trans ?_, hstraps.trans ?_, hreset.trans ?_, hpending.trans ?_⟩
  case refine_1 =>
    refine (receiver_raiseAll _ _ k).trans (receiver_setReceiver ..)
  all_goals simp [setReceiver, passTime]

end State

end Sys2Proof.Machine

open Sys2Proof Sys2Proof.Machine Sys2Proof.Machine.State

/-- Settles O53: the delivery is judged, its word is taken, the timing unit takes it again, and the store comes last. -/
theorem deliveryReachesItsNeighbours : Obligations.DeliveryReachesItsNeighbours := by
  intro s t f elapsed hreset r
  refine ⟨fun hother => ?other, fun c miss rem halign => ?locked⟩
  case other => rw [exec_frameDelivery hreset, deliverFrame_of_other hother]
  case locked =>
    intro passes trusted fr gap counted tm start
    have hfr : frameRecord f (Receiver.trusts miss f) = fr := by
      refine Table.ext_get fun i => ?_
      rw [frameRecord, Table.get_ofFn]
      refine Eq.trans ?_ (Table.get_ofFn _ i).symm
      show _ = SlotRecord.mk _ (if Receiver.trusts miss f then _ else _)
      cases Receiver.trusts miss f with
      | false => rfl
      | true => rfl
    have hexec : exec (.frameDelivery t f elapsed) s = _ :=
      (exec_frameDelivery hreset).trans (congrArg _ (deliverFrame_of_locked f elapsed halign))
    have hclock := s.sameClock_judged t c miss rem f elapsed
    have hreport := s.reported_judged t c miss rem f elapsed
    obtain ⟨hreceiver, hstores, htiming, hmap, hexchange, hprotection, hoperation, hsupervision, hstraps, hresetHeld,
      hpending⟩ := s.judged_frame t c miss rem f elapsed
    have htm : (s.judged t c miss rem f elapsed).timing = tm := by
      rw [htiming]
      simp only [tm, timing_evaluateReference, fields_withTiming]
      rfl
    rw [hfr] at hexec
    generalize s.judged t c miss rem f elapsed = v at *
    have hword : SameClock (s.passTime elapsed).timing s.straps (if t = s.mgmtTrunk then v.takeWord (fr.get 31) else v) := by
      split
      · exact SameClock.keptByRequests.takeWord _ hclock
      · exact hclock
    refine ⟨v, (if t = s.mgmtTrunk then v.takeWord (fr.get 31) else v).followDelivery t, ?_⟩
    intro w
    have hw : (if t = s.mgmtTrunk then v.takeWord (fr.get 31) else v) = w := rfl
    rw [hw] at hexec hword ⊢
    clear_value w
    have hstart : w.timing.startMoment w.profile = start := by
      rw [Timing.startMoment, hword.now, State.profile, hword.straps]
      rfl
    have hperiod : Config.nominalPeriod w.profile = framePeriod s := by
      rw [framePeriod_eq, framePeriod, framePeriod, hword.straps]
    have hx : (w.followDelivery t).timing = w.timing.takeDelivery t w.profile := rfl
    refine ⟨rfl, fun hnone hsource hgoes => ?owes, fun hnone hother => ?leaves, fun hsecond => ?second,
      fun hfirst hlate => ?completes, fun hfirst hsoon => ?holdsBack, ?_⟩
    case owes => rw [hx, Timing.takeDelivery_of_other hnone, Timing.oweStart_of_source hsource hgoes, hstart]
    case leaves => rw [hx, Timing.takeDelivery_of_other hnone, Timing.oweStart_of_other hother]
    case second => rw [hx, Timing.takeDelivery_of_second hsecond, Timing.handOverTo, hstart]
    case completes =>
      rw [hx, Timing.takeDelivery_of_first hfirst, hstart, hperiod, hword.lastStart, Timing.handOverTo, hstart]
      exact if_pos hlate
    case holdsBack =>
      have hearly : ¬ Config.nominalPeriod w.profile ≤ 2 * (w.timing.startMoment w.profile - w.timing.lastStart) := by
        rw [hstart, hperiod, hword.lastStart]
        exact Nat.not_le.mpr hsoon
      rw [hx, Timing.takeDelivery_of_first hfirst, if_neg hearly]
    generalize w.followDelivery t = x at hexec
    refine ⟨fun hidle => ?idle, fun hpriming hempty => ?primed, fun y hpriming hone => ?runs,
      fun hrunning hroom => ?appended, fun y rest hrunning hqueue hfull => ?slipped, ?_⟩
    case idle => rw [hexec, storeDelivery_of_idle hidle]
    case primed =>
      rw [hexec, storeDelivery_of_priming hpriming, hempty]
      rfl
    case runs =>
      rw [hexec, storeDelivery_of_priming hpriming, hone]
      rfl
    case appended => rw [hexec, storeDelivery_of_room hrunning hroom]
    case slipped =>
      rw [hexec, storeDelivery_of_full hrunning hqueue hfull]
      simp only [slipDetail, Bool.false_eq_true, if_false, Nat.zero_add]
      rfl
    refine ⟨(hreceiver t).trans ((if_pos rfl).trans (r.afterFrame_spelled c miss rem f)),
      fun k hk => (hreceiver k).trans (if_neg hk), hstores, htm, ?faults, fun hsame => ?quiet, fun hchanged => ?changed,
      hreport.grew, hreport.settings, hmap, hexchange, hprotection, hoperation, hsupervision, hstraps, hresetHeld, hpending⟩
    case faults =>
      intro ev hev
      refine (hreport.occurred ev nofun).trans (congrArg (EventRecord.after _) ?_)
      cases ev
      case referenceChange => exact absurd (List.mem_singleton_self _) hev
      all_goals exact List.append_nil _
    case quiet =>
      intro ev hev
      refine (hreport.occurred ev nofun).trans (congrArg (EventRecord.after _) ?_)
      rw [htm, referenceReports_of_same hsame, ite_self, List.append_nil]
      cases ev
      case checkError => exact absurd (List.mem_cons_self ..) hev
      case farEndTrouble => exact absurd (List.mem_cons_of_mem _ (List.mem_singleton_self _)) hev
      all_goals rfl
    case changed =>
      refine (hreport.occurred .referenceChange nofun).trans (congrArg (EventRecord.after _) ?_)
      rw [htm, referenceReports_of_changed hchanged]
      rfl

end

section
/-!
The parts of an output frame start, each with what it leaves and what it reports (R27, R49, R54, R60, R72, R108 to R110,
R117 to R119, R125, R162, R177).
-/

namespace Sys2Proof.Machine

open State

/-! ### What the parts after the bank controller leave -/

/-- The two states differ in stores, timing, exchange, protection records, channel and event unit at most. -/
structure SamePart (s t : State) : Prop where
  pending : t.pending = s.pending
  resetHeld : t.resetHeld = s.resetHeld
  straps : t.straps = s.straps
  receivers : t.receivers = s.receivers
  map : t.map = s.map
  operation : t.operation = s.operation
  supervision : t.supervision = s.supervision

namespace SamePart

variable {s t u : State}

theorem refl (s : State) : SamePart s s := ⟨rfl, rfl, rfl, rfl, rfl, rfl, rfl⟩

theorem trans (h : SamePart s t) (k : SamePart t u) : SamePart s u :=
  ⟨k.pending.trans h.pending, k.resetHeld.trans h.resetHeld, k.straps.trans h.straps, k.receivers.trans h.receivers,
    k.map.trans h.map, k.operation.trans h.operation, k.supervision.trans h.supervision⟩

theorem of_noticesOnly (h : NoticesOnly s t) : SamePart s t := by
  obtain ⟨hpending, hreset, hstraps, hreceivers, _, _, hmap, _, _, hoperation, hsupervision⟩ := h.fields
  exact ⟨hpending, hreset, hstraps, hreceivers, hmap, hoperation, hsupervision⟩

theorem bank (h : SamePart s t) (b : BankId) : t.bank b = s.bank b := by
  unfold State.bank
  rw [h.map]

theorem isLapsed (h : SamePart s t) : t.isLapsed = s.isLapsed := by
  unfold State.isLapsed
  rw [h.supervision]

theorem liveBank (h : SamePart s t) : t.liveBank = s.liveBank := by
  unfold State.liveBank
  rw [h.isLapsed, currentBank, currentBank, h.map]

theorem reserved (h : SamePart s t) : t.reserved = s.reserved := by
  unfold State.reserved mgmtTrunk
  rw [h.straps]

end SamePart

/-! ### The holdover count (R125) -/

/-- The REFERENCE_CHANGE of the start at which the holdover ends. -/
def holdoverReports : TimerState → List Half
  | .holdover _ c => if c ≤ 1 then [0] else []
  | _ => []

/-- The timer state after a start. -/
def tickedState : TimerState → TimerState
  | .holdover t c => if c ≤ 1 then .freeRun else .holdover t (c - 1)
  | other => other

theorem Timing.holdoverTick_eq (tm : Timing) : tm.holdoverTick = { tm with state := tickedState tm.state } := by
  unfold holdoverTick tickedState
  rcases tm with ⟨state, refList, delivered, source, handOver, counter, now, lastStart, owed⟩
  cases state with
  | freeRun => rfl
  | tracking => rfl
  | holdover => rfl

theorem referenceReports_ticked (st : TimerState) : referenceReports st (tickedState st) = holdoverReports st := by
  cases st with
  | freeRun => rfl
  | tracking t => exact referenceReports_of_same rfl
  | holdover t c =>
    simp only [tickedState, holdoverReports]
    by_cases h : c ≤ 1
    · rw [if_pos h, if_pos h]
      exact referenceReports_of_changed id
    · rw [if_neg h, if_neg h]
      exact referenceReports_of_same rfl

namespace State

variable {s : State}

theorem samePart_holdoverStart (s : State) : SamePart s s.holdoverStart :=
  SamePart.trans (t := s.withTiming s.timing.holdoverTick) ⟨rfl, rfl, rfl, rfl, rfl, rfl, rfl⟩ (.of_noticesOnly (noticesOnly_retime s s.timing.holdoverTick))

theorem reported_holdoverStart (s : State) :
    Reported s s.holdoverStart (fun ev => if .referenceChange = ev then holdoverReports s.timing.state else []) := by
  rw [← referenceReports_ticked]
  have hreport := reported_retime s s.timing.holdoverTick
  rwa [show s.timing.holdoverTick.state = tickedState s.timing.state by rw [Timing.holdoverTick_eq]] at hreport

/-! ### Designation (R108 to R110) -/

theorem store_foldl_designate (l : List Trunk) (hl : l.Nodup) (s : State) (k : Trunk) :
    (l.foldl designate s).store k = if k ∈ l then (s.store k).designated else s.store k := by
  induction l generalizing s with
  | nil => rfl
  | cons t l ih =>
    obtain ⟨ht, hl⟩ := List.nodup_cons.mp hl
    rw [List.foldl_cons, ih hl, designate_eq, store_setStore]
    by_cases hk : k = t
    · subst hk
      rw [if_neg ht, if_pos rfl, if_pos (List.mem_cons_self ..)]
    · rw [if_neg hk]
      exact if_congr (by rw [List.mem_cons, or_iff_right hk]) rfl rfl

theorem store_designateAll (s : State) (k : Trunk) : s.designateAll.store k = (s.store k).designated :=
  (store_foldl_designate _ (List.nodup_finRange 4) s k).trans (if_pos (List.mem_finRange k))

theorem designateAll_eq (s : State) : s.designateAll = s.withStores s.designateAll.stores := by
  have hfold (l : List Trunk) : ∀ s : State, l.foldl designate s = s.withStores (l.foldl designate s).stores := by
    induction l with
    | nil => exact fun s => rfl
    | cons t l ih =>
      intro s
      rw [List.foldl_cons, ih, designate_eq]
      rfl
  exact hfold _ s

/-! ### The frame bank (R26, R27, R60) -/

/-- The record at an index returns to rest at this change of frame bank (R60). -/
def latchRests (s : State) (i : Fin 128) : Bool :=
  match s.exchange.latched with
  | some old => old.bank != s.liveBank && old.entries.get i != (s.bank s.liveBank).entries.get i
  | none => false

theorem latchFrameBank_eq (s : State) :
    s.latchFrameBank =
      (s.withExchange { s.exchange with latched := some s.latchedNow }).withProtection
        (Table.ofFn fun i => if s.latchRests i then .rest else s.protection.get i) := by
  have hkept : (Table.ofFn fun i => s.protection.get i) = s.protection := Table.ext_get fun i => Table.get_ofFn _ i
  unfold latchFrameBank latchRests
  cases s.exchange.latched with
  | none =>
    simp only [Bool.false_eq_true, if_false, hkept]
    rfl
  | some old =>
    by_cases hbank : old.bank = s.liveBank
    · simp only [hbank, bne_self_eq_false, Bool.false_and, Bool.false_eq_true, if_false, hkept]
      exact if_pos rfl
    · refine (if_neg hbank).trans (congrArg (withProtection _) (congrArg Table.ofFn (funext fun i => ?_)))
      by_cases heq : old.entries.get i = (s.bank s.liveBank).entries.get i
      · simp only [heq, bne_self_eq_false, Bool.and_false, Bool.false_eq_true, if_false]
        exact if_pos rfl
      · simp only [bne_iff_ne.mpr hbank, bne_iff_ne.mpr heq, Bool.and_true, if_true]
        exact if_neg heq

/-! ### Selection and its occurrences (R37, R49, R54) -/

theorem latchedNow_of_samePart {t : State} (h : SamePart s t) : t.latchedNow = s.latchedNow := by
  unfold latchedNow
  rw [h.liveBank, h.bank]

theorem reserved_congr {t : State} (h : t.straps = s.straps) : t.reserved = s.reserved :=
  congrArg (fun p : Straps => reservedIndex p.mtrunk) h

theorem readInput_congr {t : State} (hstores : t.stores = s.stores) (hstraps : t.straps = s.straps) (k : Trunk)
    (slot : Fin 32) : t.readInput k slot = s.readInput k slot := by
  have hm : t.mgmtTrunk = s.mgmtTrunk := congrArg Straps.mtrunk hstraps
  have hstore : t.store k = s.store k := congrArg (fun v => Table.get v k) hstores
  unfold readInput
  rw [hm, hstore]

theorem termFails_congr {t : State} (hstores : t.stores = s.stores) (hstraps : t.straps = s.straps) (x : Term) :
    t.termFails x = s.termFails x := by
  simp only [termFails, readInput_congr hstores hstraps]

theorem termValue_congr {t : State} (hstores : t.stores = s.stores) (hstraps : t.straps = s.straps) :
    t.termValue = s.termValue := by
  funext x
  simp only [termValue, readInput_congr hstores hstraps]

theorem mixClips_congr {t : State} (hstores : t.stores = s.stores) (hstraps : t.straps = s.straps) (e : Entry) :
    t.mixClips e = s.mixClips e := by
  unfold mixClips
  rw [termValue_congr hstores hstraps]

theorem trafficSlot_congr {t : State} (hstores : t.stores = s.stores) (hstraps : t.straps = s.straps) (e : Entry)
    (r : ProtRecord) : t.trafficSlot e r = s.trafficSlot e r := by
  unfold trafficSlot
  rw [termValue_congr hstores hstraps]

/-- The detail with which a move is reported under an event, if it is (R54, R186). -/
def moveReport (i : Fin 128) : Option ProtMove → Event → Option Half
  | some .switched, .protectionSwitch => some (indexDetail i)
  | some .restored, .protectionRevert => some (revertDetail false i)
  | some .alternateFailed, .protectionRevert => some (revertDetail true i)
  | _, _ => none

theorem protectionEvents_reports (s : State) (entries : Table 128 Entry) (ev : Event) :
    ((s.protectionEvents entries).filter fun y => y.1 == ev).map Prod.snd =
      (List.finRange 128).filterMap fun i => moveReport i (s.selectAt (entries.get i) i (s.protection.get i)).2 ev := by
  rw [protectionEvents, List.filter_filterMap, List.map_filterMap]
  congr 1
  funext i
  generalize (s.selectAt (entries.get i) i (s.protection.get i)).2 = move
  cases move with
  | none => rfl
  | some move => cases move <;> cases ev <;> rfl

theorem clipEvents_reports (s : State) (entries : Table 128 Entry) (ev : Event) :
    ((s.clipEvents entries).filter fun y => y.1 == ev).map Prod.snd =
      if .mixClip = ev then (List.finRange 128).filterMap fun i =>
        if i ≠ s.reserved ∧ s.mixClips (entries.get i) = true then some (BitVec.ofNat 16 i.val) else none
      else [] := by
  rw [clipEvents, List.filter_map, List.map_map]
  by_cases hev : Event.mixClip = ev
  · subst hev
    rw [if_pos rfl, ← List.filterMap_eq_map, List.filter_filter, List.filterMap_filter]
    congr 1
    funext i
    simp only [Function.comp_apply, beq_self_eq_true, Bool.true_and, Bool.and_eq_true, bne_iff_ne]
    rfl
  · rw [if_neg hev, List.filter_eq_nil_iff.mpr, List.map_nil]
    intro i _
    exact fun h => hev (beq_iff_eq.mp h)

theorem selectAt_congr {t : State} (hstores : t.stores = s.stores) (hstraps : t.straps = s.straps) (e : Entry)
    (i : Fin 128) (r : ProtRecord) : t.selectAt e i r = s.selectAt e i r := by
  have hreserved : t.reserved = s.reserved := reserved_congr hstraps
  have hfails : t.termFails = s.termFails := funext (termFails_congr hstores hstraps)
  unfold selectAt
  rw [hreserved, hfails]

/-- What the exchange and the protection unit report at a start, from the records before selection (R37, R54). -/
def buildReports (s : State) (entries : Table 128 Entry) (base : Fin 128 → ProtRecord) (ev : Event) : List Half :=
  ((List.finRange 128).filterMap fun i => moveReport i (s.selectAt (entries.get i) i (base i)).2 ev) ++
    if .mixClip = ev then (List.finRange 128).filterMap fun i =>
      if i ≠ s.reserved ∧ s.mixClips (entries.get i) = true then some (BitVec.ofNat 16 i.val) else none
    else []

theorem buildReports_congr {t : State} (hstores : t.stores = s.stores) (hstraps : t.straps = s.straps) :
    t.buildReports = s.buildReports := by
  have hreserved : t.reserved = s.reserved := reserved_congr hstraps
  have hclips : t.mixClips = s.mixClips := funext (mixClips_congr hstores hstraps)
  funext entries base ev
  simp only [buildReports, hreserved, hclips, selectAt_congr hstores hstraps]

/-- The record at an index before selection (R60). -/
def latchBase (s : State) (i : Fin 128) : ProtRecord := if s.latchRests i then .rest else s.protection.get i

theorem samePart_latchFrameBank (s : State) : SamePart s s.latchFrameBank := by
  rw [latchFrameBank_eq]
  exact ⟨rfl, rfl, rfl, rfl, rfl, rfl, rfl⟩

theorem noticesOnly_exchangeStart (s : State) :
    NoticesOnly (s.latchFrameBank.selectAll s.latchFrameBank.latchedNow.entries) s.exchangeStart :=
  (noticesOnly_raiseAll _ _).trans (noticesOnly_raiseAll _ _)

/-- Latched, selected, and then only reported. -/
theorem exchangeStart_frame (s : State) :
    SamePart s s.exchangeStart ∧ s.exchangeStart.stores = s.stores ∧ s.exchangeStart.timing = s.timing
    ∧ s.exchangeStart.exchange = { s.exchange with latched := some s.latchedNow }
    ∧ ∀ i, s.exchangeStart.protection.get i = (s.selectAt (s.latchedNow.entries.get i) i (s.latchBase i)).1 := by
  obtain ⟨hpending, hreset, hstraps, hreceivers, hstores, htiming, hmap, hexchange, hprotection, hoperation,
    hsupervision⟩ := (noticesOnly_exchangeStart s).fields
  rw [latchedNow_of_samePart (samePart_latchFrameBank s), latchFrameBank_eq] at *
  refine ⟨⟨hpending, hreset, hstraps, hreceivers, hmap, hoperation, hsupervision⟩, hstores, htiming, hexchange,
    fun i => ?_⟩
  rw [hprotection]
  refine (Table.get_ofFn _ i).trans ?_
  rw [selectAt_congr (s := s) rfl rfl]
  exact congrArg (fun r => (s.selectAt (s.latchedNow.entries.get i) i r).1) (Table.get_ofFn _ i)

theorem reported_exchangeStart (s : State) :
    Reported s s.exchangeStart (s.buildReports s.latchedNow.entries s.latchBase) := by
  have hentries := latchedNow_of_samePart (samePart_latchFrameBank s)
  have hlatch := s.latchFrameBank_eq
  generalize hu : s.latchFrameBank = u at *
  have hmoves := (Reported.raiseAll (u.protectionEvents s.latchedNow.entries)
    (u.selectAll s.latchedNow.entries)).congr (protectionEvents_reports u _)
  have hkept := (noticesOnly_raiseAll (u.protectionEvents s.latchedNow.entries) (u.selectAll s.latchedNow.entries)).fields
  have hclips := (Reported.raiseAll ((u.protectFrame s.latchedNow.entries).clipEvents s.latchedNow.entries)
    (u.protectFrame s.latchedNow.entries)).congr (clipEvents_reports _ _)
  obtain ⟨_, _, hstraps, _, hstores, _⟩ := hkept
  have hstart : s.exchangeStart = (u.protectFrame s.latchedNow.entries).raiseAll
      ((u.protectFrame s.latchedNow.entries).clipEvents s.latchedNow.entries) := by
    rw [← hentries, ← hu]
    rfl
  subst hlatch
  rw [hstart]
  refine (Reported.of_silent_trans (hmoves.trans hclips)).congr fun ev => ?_
  have hreserved : (protectFrame _ s.latchedNow.entries).reserved = s.reserved := reserved_congr hstraps
  unfold buildReports
  rw [hreserved]
  simp only [mixClips_congr (s := s) (t := protectFrame _ s.latchedNow.entries) hstores hstraps,
    fields_withProtection, Table.get_ofFn]
  rfl

end State

end Sys2Proof.Machine

end

section
/-!
The frame as a start builds it: what stands in the state in which it is settled (R28 to R30, R38 to R43, R177).
-/

namespace Sys2Proof.Machine

open State

namespace State

variable {s t : State}

/-! ### Re-notify (R177) -/

/-- The re-notify count after a start. -/
def renotifyCount (u : EventUnit) : Nat :=
  if u.interval = 0 then u.renotify else if u.renotify ≤ 1 then 256 * u.interval.toNat else u.renotify - 1

/-- The part with every SENT record OWED and the count reloaded, before the offering (R177). -/
def renotifyOwed (s : State) : State :=
  s.withEvents { s.events with
    records := Table.ofFn fun e =>
      if (s.record e).notice = .sent then { s.record e with notice := .owed } else s.record e
    renotify := 256 * s.events.interval.toNat }

theorem renotifyStart_eq (s : State) :
    s.renotifyStart =
      if s.events.interval = 0 then s
      else if s.events.renotify ≤ 1 then s.renotifyOwed.offerNotices
      else s.withEvents { s.events with renotify := s.events.renotify - 1 } :=
  rfl

theorem facts_renotifyOwed (s : State) (e : Fin 16) : (s.renotifyOwed.record e).facts = (s.record e).facts := by
  refine (congrArg EventRecord.facts (Table.get_ofFn _ e)).trans ?_
  split
  · rfl
  · rfl

theorem noticesOnly_renotifyStart (s : State) : NoticesOnly s s.renotifyStart := by
  rw [renotifyStart_eq]
  split
  · exact .refl s
  · split
    · exact (NoticesOnly.events s _).trans (noticesOnly_offerNotices _)
    · exact .events s _

theorem occurrences_renotifyStart (s : State) : occurrences s s.renotifyStart [] (fun _ => []) := by
  intro ev _
  show (s.renotifyStart.record ev.num).facts = (s.record ev.num).facts
  rw [renotifyStart_eq]
  split
  · rfl
  · split
    · rw [facts_offerNotices, facts_renotifyOwed]
    · rfl

theorem settings_renotifyStart (s : State) :
    s.renotifyStart.events.mask = s.events.mask ∧ s.renotifyStart.events.interval = s.events.interval
    ∧ s.renotifyStart.events.renotify = renotifyCount s.events := by
  obtain ⟨hmask, hinterval, hrenotify⟩ := settings_offerFrom (List.finRange 16) s.renotifyOwed
  rw [renotifyStart_eq, renotifyCount]
  split
  · exact ⟨rfl, rfl, rfl⟩
  · split
    · exact ⟨hmask, hinterval, hrenotify⟩
    · exact ⟨rfl, rfl, rfl⟩

/-! ### From the bank controller to the transmitter's word -/

theorem latchBase_congr (h : SamePart s t) (hexchange : t.exchange = s.exchange) (hprotection : t.protection = s.protection) :
    t.latchBase = s.latchBase := by
  funext i
  have hrests : t.latchRests i = s.latchRests i := by
    unfold latchRests
    rw [hexchange, h.liveBank, h.bank]
  unfold latchBase
  rw [hrests, hprotection]

end State

/-- The frame is built from the part as supervision and bank controller leave it: `t` follows from `s` by the holdover
count, designation, the exchange and the protection unit, and re-notify. -/
structure Built (s t : State) : Prop where
  part : SamePart s t
  store : ∀ k, t.store k = (s.store k).designated
  timing : t.timing = { s.timing with state := tickedState s.timing.state }
  exchange : t.exchange = { s.exchange with latched := some s.latchedNow }
  protection : ∀ i, t.protection.get i = (t.selectAt (s.latchedNow.entries.get i) i (s.latchBase i)).1
  grew : queueGrew s t
  mask : t.events.mask = s.events.mask
  interval : t.events.interval = s.events.interval
  renotify : t.events.renotify = renotifyCount s.events
  occurred : occurrences s t [] (fun ev =>
    (if .referenceChange = ev then holdoverReports s.timing.state else []) ++
      t.buildReports s.latchedNow.entries s.latchBase ev)

namespace State

variable {s t : State}

theorem prepared_frame (s : State) :
    SamePart s s.holdoverStart.designateAll ∧ (∀ k, s.holdoverStart.designateAll.store k = (s.store k).designated)
    ∧ s.holdoverStart.designateAll.timing = { s.timing with state := tickedState s.timing.state }
    ∧ s.holdoverStart.designateAll.exchange = s.exchange ∧ s.holdoverStart.designateAll.protection = s.protection
    ∧ Reported s s.holdoverStart.designateAll
        (fun ev => if .referenceChange = ev then holdoverReports s.timing.state else []) := by
  have hkept := noticesOnly_retime s s.timing.holdoverTick
  have hpart := s.samePart_holdoverStart
  have hreport := s.reported_holdoverStart
  have htiming : s.holdoverStart.timing = _ := timing_retime s s.timing.holdoverTick
  obtain ⟨_, _, _, _, _, _, _, hexchange, hprotection, _, _⟩ := hkept.fields
  have hstore := fun k => (s.holdoverStart.store_designateAll k).trans (congrArg Store.designated (hkept.store k))
  rw [Timing.holdoverTick_eq] at htiming
  rw [designateAll_eq] at hstore ⊢
  exact ⟨hpart.trans ⟨rfl, rfl, rfl, rfl, rfl, rfl, rfl⟩, hstore, htiming, hexchange, hprotection,
    hreport.trans_silent rfl rfl⟩

theorem built (s : State) : Built s s.holdoverStart.designateAll.exchangeStart.renotifyStart := by
  obtain ⟨hpart, hstore, htiming, hexchange, hprotection, hreport⟩ := s.prepared_frame
  generalize s.holdoverStart.designateAll = p at *
  obtain ⟨kpart, kstores, ktiming, kexchange, kprotection⟩ := p.exchangeStart_frame
  have kreport := p.reported_exchangeStart
  rw [latchedNow_of_samePart hpart, latchBase_congr hpart hexchange hprotection] at *
  generalize p.exchangeStart = e at *
  have hkept := e.noticesOnly_renotifyStart
  have hoccurred := e.occurrences_renotifyStart
  obtain ⟨lmask, linterval, lrenotify⟩ := e.settings_renotifyStart
  obtain ⟨_, _, lstraps, _, lstores, ltiming, _, lexchange, lprotection, _, _⟩ := hkept.fields
  generalize e.renotifyStart = b at *
  have hall := hreport.trans kreport
  obtain ⟨hmask, hinterval, hrenotify⟩ := hall.settings
  have hstores : b.stores = p.stores := lstores.trans kstores
  have hstraps : b.straps = p.straps := lstraps.trans kpart.straps
  refine ⟨(hpart.trans kpart).trans (.of_noticesOnly hkept), fun k => ?_, (ltiming.trans ktiming).trans htiming, ?_,
    fun i => ?_, ?_, lmask.trans hmask, linterval.trans hinterval, ?_, ?_⟩
  · rw [← hstore]
    exact congrArg (fun v => Table.get v k) hstores
  · rw [lexchange, kexchange, hexchange]
  · rw [lprotection, kprotection, selectAt_congr hstores hstraps]
  · obtain ⟨l, hl, hchannel⟩ := hall.grew
    obtain ⟨m, hm, hchannel'⟩ := hkept.channel
    exact ⟨l ++ m, fun it hit => (List.mem_append.mp hit).elim (hl it) (hm it),
      by rw [hchannel', hchannel, List.append_assoc]⟩
  · rw [lrenotify, renotifyCount, renotifyCount, hinterval, hrenotify]
  · intro ev hev
    rw [hoccurred ev hev, buildReports_congr hstores hstraps]
    exact hall.occurred ev hev

theorem settleFrames_of_latched {l : Latched} (word : SlotRecord) (h : s.exchange.latched = some l) :
    s.settleFrames word = s.withExchange ⟨some l, some (Table.ofFn (s.outputFrame l word))⟩ := by
  unfold settleFrames
  rw [h]
  exact congrArg (fun x => s.withExchange ⟨x, some (Table.ofFn (s.outputFrame l word))⟩) h

end State

end Sys2Proof.Machine

end

section
/-!
Supervision and the bank controller at an output frame start (R68 to R72, R81, R161, R162, R166).
-/

namespace Sys2Proof.Machine

open State

/-- From `s` to `t` supervision and the bank controller have acted, with these occurrences. -/
structure Controls (s t : State) (ds : Event → List Half) : Prop where
  pending : t.pending = s.pending
  resetHeld : t.resetHeld = s.resetHeld
  straps : t.straps = s.straps
  receivers : t.receivers = s.receivers
  stores : t.stores = s.stores
  timing : t.timing = s.timing
  exchange : t.exchange = s.exchange
  reported : Reported s t ds

namespace Controls

variable {s t u : State} {ds es : Event → List Half}

theorem refl (s : State) : Controls s s (fun _ => []) := ⟨rfl, rfl, rfl, rfl, rfl, rfl, rfl, .refl s⟩

theorem trans (h : Controls s t ds) (k : Controls t u es) : Controls s u (fun ev => ds ev ++ es ev) :=
  ⟨k.pending.trans h.pending, k.resetHeld.trans h.resetHeld, k.straps.trans h.straps, k.receivers.trans h.receivers,
    k.stores.trans h.stores, k.timing.trans h.timing, k.exchange.trans h.exchange, h.reported.trans k.reported⟩

theorem congr (h : Controls s t ds) (hds : ∀ ev, ds ev = es ev) : Controls s t es :=
  ⟨h.pending, h.resetHeld, h.straps, h.receivers, h.stores, h.timing, h.exchange, h.reported.congr hds⟩

/-- An occurrence after changes of map, protection records, operation and supervision. -/
theorem raise (ev : Event) (d : Half) (h : Controls s t ds) :
    Controls s (t.raise ev d) (fun x => ds x ++ if ev = x then [d] else []) :=
  h.trans (by
    obtain ⟨hpending, hreset, hstraps, hreceivers, hstores, htiming, _, hexchange, _⟩ := t.fields_raise ev d
    exact ⟨hpending, hreset, hstraps, hreceivers, hstores, htiming, hexchange, .raise t ev d⟩)

end Controls

namespace State

variable {s : State}

/-! ### Supervision (R161, R162) -/

theorem superviseStart_of_expiry {c : Nat} (h : s.supervision.state = .watching c) (hc : c ≤ 1) :
    s.superviseStart = s.lapseByExpiry := by
  unfold superviseStart
  rw [h]
  exact if_pos hc

theorem superviseStart_of_counting {c : Nat} (h : s.supervision.state = .watching c) (hc : 2 ≤ c) :
    s.superviseStart = s.withSupervision { s.supervision with state := .watching (c - 1) } := by
  unfold superviseStart
  rw [h]
  exact if_neg (by omega)

theorem superviseStart_of_unwatched (h : ∀ c, s.supervision.state ≠ .watching c) : s.superviseStart = s := by
  unfold superviseStart
  split
  next hst => exact absurd hst (h _)
  next => rfl

/-- Supervision expires, counts on, or is not watching. -/
theorem supervision_cases (s : State) :
    (∃ c, s.supervision.state = .watching c ∧ c ≤ 1) ∨ (∃ c, s.supervision.state = .watching c ∧ 2 ≤ c)
    ∨ ∀ c, s.supervision.state ≠ .watching c := by
  cases h : s.supervision.state with
  | watching c =>
    by_cases hc : c ≤ 1
    · exact .inl ⟨c, rfl, hc⟩
    · exact .inr (.inl ⟨c, rfl, by omega⟩)
  | off => exact .inr (.inr nofun)
  | lapsed => exact .inr (.inr nofun)

/-- The lapse of an expiry, in what it leaves beside the map, the operation and supervision. -/
theorem controls_lapseByExpiry (s : State) :
    Controls s s.lapseByExpiry
      (fun ev => lapseEndReports .expiry s.operation ev ++ if .lapse = ev then [lapseDetail .expiry] else []) := by
  obtain ⟨hpending, hreset, hstraps, hreceivers, hstores, htiming, hexchange, _⟩ :=
    lapseOperation_frame (s.enterLapsed .expiry) .expiry
  have hreport := reported_lapseOperation (s.enterLapsed .expiry) .expiry
  exact Controls.raise .lapse (lapseDetail .expiry)
    ⟨hpending, hreset, hstraps, hreceivers, hstores, htiming, hexchange, .of_silent_trans hreport⟩

/-- The occurrences of supervision at a start. -/
def superviseReports (s : State) (ev : Event) : List Half :=
  if s.expiryDue then lapseEndReports .expiry s.operation ev ++ if .lapse = ev then [lapseDetail .expiry] else [] else []

theorem expiryDue_iff (s : State) : s.expiryDue = true ↔ ∃ c, s.supervision.state = .watching c ∧ c ≤ 1 := by
  unfold expiryDue
  cases s.supervision.state <;> simp

theorem superviseReports_of_quiet (h : ∀ c, s.supervision.state = .watching c → 2 ≤ c) (ev : Event) :
    s.superviseReports ev = [] := by
  refine if_neg fun hdue => ?_
  obtain ⟨c, hst, hc⟩ := s.expiryDue_iff.mp hdue
  have := h c hst
  omega

theorem superviseReports_of_expiry {c : Nat} (h : s.supervision.state = .watching c) (hc : c ≤ 1) (ev : Event) :
    s.superviseReports ev =
      lapseEndReports .expiry s.operation ev ++ if .lapse = ev then [lapseDetail .expiry] else [] :=
  if_pos (s.expiryDue_iff.mpr ⟨c, h, hc⟩)

theorem controls_superviseStart (s : State) : Controls s s.superviseStart s.superviseReports := by
  rcases s.supervision_cases with ⟨c, hst, hc⟩ | ⟨c, hst, hc⟩ | hst
  · rw [superviseStart_of_expiry hst hc]
    exact s.controls_lapseByExpiry.congr fun ev => (superviseReports_of_expiry hst hc ev).symm
  · have hquiet := superviseReports_of_quiet (s := s) fun c' hst' => by
      rw [hst] at hst'
      cases hst'
      exact hc
    rw [superviseStart_of_counting hst hc]
    exact ⟨rfl, rfl, rfl, rfl, rfl, rfl, rfl, (Reported.of_silent (by rfl) (by rfl)).congr fun ev => (hquiet ev).symm⟩
  · have hquiet := superviseReports_of_quiet (s := s) fun c hst' => absurd hst' (hst c)
    rw [superviseStart_of_unwatched hst]
    exact (Controls.refl s).congr fun ev => (hquiet ev).symm

/-- What an expiry leaves of the operation and of the map (R22, R70, R77). -/
theorem lapseByExpiry_frame (s : State) :
    s.lapseByExpiry.supervision = { s.supervision with state := .lapsed .expiry }
    ∧ s.lapseByExpiry.protection = s.protection
    ∧ s.lapseByExpiry.operation = ((s.enterLapsed .expiry).lapseOperation .expiry).operation
    ∧ s.lapseByExpiry.map = ((s.enterLapsed .expiry).lapseOperation .expiry).map := by
  obtain ⟨_, _, _, _, _, _, _, hprotection, hsupervision, _⟩ := lapseOperation_frame (s.enterLapsed .expiry) .expiry
  simp only [lapseByExpiry, fields_raise, hprotection, hsupervision, and_true]
  exact ⟨rfl, rfl⟩

theorem protection_superviseStart (s : State) : s.superviseStart.protection = s.protection := by
  rcases s.supervision_cases with ⟨c, hst, hc⟩ | ⟨c, hst, hc⟩ | hst
  · obtain ⟨_, hprotection, _⟩ := s.lapseByExpiry_frame
    rw [superviseStart_of_expiry hst hc, hprotection]
  · rw [superviseStart_of_counting hst hc]
    rfl
  · rw [superviseStart_of_unwatched hst]

/-- Supervision ends the pending operation or leaves it. -/
theorem operation_superviseStart (s : State) :
    s.superviseStart.operation = s.operation ∨ s.superviseStart.operation = none := by
  rcases s.supervision_cases with ⟨c, hst, hc⟩ | ⟨c, hst, hc⟩ | hst
  · obtain ⟨_, _, hoperation, _⟩ := s.lapseByExpiry_frame
    rw [superviseStart_of_expiry hst hc, hoperation]
    refine lapseOperation_induction (s := s.enterLapsed .expiry)
      (P := fun _ u => u.operation = s.operation ∨ u.operation = none) .expiry (fun _ => .inl rfl) (fun _ _ _ _ => ?_)
      (fun _ _ _ => .inl rfl) (fun _ _ _ _ => ?_) (fun _ _ _ _ _ _ => .inl rfl)
    · exact .inr (by simp)
    · exact .inr (by simp [abandonCopy])
  · rw [superviseStart_of_counting hst hc]
    exact .inl rfl
  · rw [superviseStart_of_unwatched hst]
    exact .inl rfl

/-- A pending RESUME is not touched, nor the map (R71). -/
theorem superviseStart_of_resume {seq : Byte} {n : Half} (h : s.operation = some (.resume seq n)) :
    s.superviseStart.operation = s.operation ∧ s.superviseStart.map = s.map := by
  rcases s.supervision_cases with ⟨c, hst, hc⟩ | ⟨c, hst, hc⟩ | hst
  · obtain ⟨_, _, hoperation, hmap⟩ := s.lapseByExpiry_frame
    rw [superviseStart_of_expiry hst hc, hoperation, hmap,
      lapseOperation_of_resume (s := s.enterLapsed .expiry) .expiry h]
    exact ⟨rfl, rfl⟩
  · rw [superviseStart_of_counting hst hc]
    exact ⟨rfl, rfl⟩
  · rw [superviseStart_of_unwatched hst]
    exact ⟨rfl, rfl⟩

/-! ### Activation (R68, R69, R72, R81) -/

theorem activateDue_of_switch {seq : Byte} {x : Option Half} (h : s.operation = some (.switch seq s.timing.counter x)) :
    s.activateDue = s.activateSwitch seq := by
  unfold activateDue
  rw [h]
  exact if_pos rfl

theorem activateDue_of_resume {seq : Byte} (h : s.operation = some (.resume seq s.timing.counter)) :
    s.activateDue = s.activateResume seq := by
  unfold activateDue
  rw [h]
  exact if_pos rfl

theorem activateDue_of_other (hswitch : ∀ seq x, s.operation ≠ some (.switch seq s.timing.counter x))
    (hresume : ∀ seq, s.operation ≠ some (.resume seq s.timing.counter)) : s.activateDue = s := by
  unfold activateDue
  split
  next seq n x hop => exact if_neg fun (hn : n = s.timing.counter) => hswitch seq x (hn ▸ hop)
  next seq n hop => exact if_neg fun (hn : n = s.timing.counter) => hresume seq (hn ▸ hop)
  next => rfl

/-- A SWITCH, a RESUME or nothing activates. -/
theorem activation_cases (s : State) :
    (∃ seq x, s.operation = some (.switch seq s.timing.counter x)) ∨ (∃ seq, s.operation = some (.resume seq s.timing.counter))
    ∨ ((∀ seq x, s.operation ≠ some (.switch seq s.timing.counter x)) ∧
        ∀ seq, s.operation ≠ some (.resume seq s.timing.counter)) := by
  by_cases hswitch : ∃ seq x, s.operation = some (.switch seq s.timing.counter x)
  · exact .inl hswitch
  · by_cases hresume : ∃ seq, s.operation = some (.resume seq s.timing.counter)
    · exact .inr (.inl hresume)
    · exact .inr (.inr ⟨fun seq x h => hswitch ⟨seq, x, h⟩, fun seq h => hresume ⟨seq, h⟩⟩)

theorem activateSwitch_frame (s : State) (seq : Byte) :
    (s.activateSwitch seq).operation = none ∧ (s.activateSwitch seq).supervision = s.supervision
    ∧ (s.activateSwitch seq).map = { s.map with current := s.map.current.other }
    ∧ (s.activateSwitch seq).protection = s.protection := by
  simp [activateSwitch, raiseSwitchDone, exchangeRoles]

theorem activateResume_eq (s : State) (seq : Byte) :
    s.activateResume seq = (s.leaveLapsed.protectResume.withOperation none).raise .switchDone
      (switchDoneDetail s.currentBank s.currentBank seq) := by
  obtain ⟨v, hv⟩ := protectResume_withProtection s.leaveLapsed
  have hlive : ((s.leaveLapsed.withProtection v).withOperation none).liveBank = s.currentBank :=
    liveBank_of_not_lapsed _ (isLapsed_leaveLapsed s)
  rw [activateResume, raiseSwitchDone, hv, hlive]
  rfl

theorem activateResume_frame (s : State) (seq : Byte) :
    (s.activateResume seq).operation = none ∧ (s.activateResume seq).supervision = s.leaveLapsed.supervision
    ∧ (s.activateResume seq).map = s.map
    ∧ (s.activateResume seq).protection = s.leaveLapsed.protectResume.protection := by
  obtain ⟨v, hv⟩ := protectResume_withProtection s.leaveLapsed
  rw [activateResume_eq, hv]
  exact ⟨by simp, by simp, by simp [leaveLapsed], by simp⟩

/-- The SWITCH_DONE of a start, with the roles and the live bank as the activation leaves them. -/
def activateReports (s : State) : List Half :=
  match s.operation with
  | some (.switch seq n _) =>
      if n = s.timing.counter then [switchDoneDetail s.shadowBank s.exchangeRoles.liveBank seq] else []
  | some (.resume seq n) =>
      if n = s.timing.counter then [switchDoneDetail s.currentBank s.currentBank seq] else []
  | _ => []

theorem activateReports_of_switch {seq : Byte} {x : Option Half} (h : s.operation = some (.switch seq s.timing.counter x)) :
    s.activateReports = [switchDoneDetail s.shadowBank s.exchangeRoles.liveBank seq] := by
  unfold activateReports
  rw [h]
  exact if_pos rfl

theorem activateReports_of_resume {seq : Byte} (h : s.operation = some (.resume seq s.timing.counter)) :
    s.activateReports = [switchDoneDetail s.currentBank s.currentBank seq] := by
  unfold activateReports
  rw [h]
  exact if_pos rfl

theorem activateReports_of_other (hswitch : ∀ seq x, s.operation ≠ some (.switch seq s.timing.counter x))
    (hresume : ∀ seq, s.operation ≠ some (.resume seq s.timing.counter)) : s.activateReports = [] := by
  unfold activateReports
  split
  next seq n x hop => exact if_neg fun (hn : n = s.timing.counter) => hswitch seq x (hn ▸ hop)
  next seq n hop => exact if_neg fun (hn : n = s.timing.counter) => hresume seq (hn ▸ hop)
  next => rfl

theorem controls_activateDue (s : State) :
    Controls s s.activateDue (fun ev => if .switchDone = ev then s.activateReports else []) := by
  rcases s.activation_cases with ⟨seq, x, hop⟩ | ⟨seq, hop⟩ | ⟨hswitch, hresume⟩
  · rw [activateDue_of_switch hop, activateReports_of_switch hop]
    exact Controls.raise (s := s) (t := s.exchangeRoles.withOperation none) .switchDone _
      ⟨rfl, rfl, rfl, rfl, rfl, rfl, rfl, .of_silent rfl rfl⟩
  · obtain ⟨v, hv⟩ := protectResume_withProtection s.leaveLapsed
    rw [activateDue_of_resume hop, activateReports_of_resume hop, activateResume_eq, hv]
    exact Controls.raise (s := s) (t := (s.leaveLapsed.withProtection v).withOperation none) .switchDone _
      ⟨rfl, rfl, rfl, rfl, rfl, rfl, rfl, .of_silent rfl rfl⟩
  · rw [activateDue_of_other hswitch hresume, activateReports_of_other hswitch hresume]
    exact (Controls.refl s).congr fun ev => (ite_self _).symm

end State

end Sys2Proof.Machine

end

section
/-!
The part once supervision and the bank controller have acted at a start, and the records as the change of frame bank and
a RESUME leave them (R27, R60, R68 to R72).
-/

namespace Sys2Proof.Machine

open State

namespace State

variable {s : State}

/-! ### The operation that falls due -/

theorem switchDue_iff (s : State) :
    s.switchDue = true ↔ ∃ seq x, s.operation = some (.switch seq (s.timing.counter + 1) x) := by
  unfold switchDue
  rcases s.operation with _ | ⟨seq, n, x⟩ | ⟨seq, n⟩ | ⟨seq, src, dst, n⟩ <;> simp

theorem resumeDue_iff (s : State) :
    s.resumeDue = true ↔ ∃ seq, s.operation = some (.resume seq (s.timing.counter + 1)) := by
  unfold resumeDue
  rcases s.operation with _ | ⟨seq, n, x⟩ | ⟨seq, n⟩ | ⟨seq, src, dst, n⟩ <;> simp

/-! ### Supervision and the bank controller -/

/-- The part once supervision and the bank controller have acted at a start. -/
def controlled (s : State) : State := s.advanceFrame.superviseStart.activateDue

theorem controls_controlled (s : State) :
    Controls s.advanceFrame s.controlled (fun ev => s.advanceFrame.superviseReports ev ++
      if .switchDone = ev then s.advanceFrame.superviseStart.activateReports else []) :=
  s.advanceFrame.controls_superviseStart.trans (controls_activateDue _)

theorem counter_superviseStart (s : State) :
    s.advanceFrame.superviseStart.timing.counter = s.timing.counter + 1 :=
  congrArg Timing.counter s.advanceFrame.controls_superviseStart.timing

/-- A RESUME that is due activates, whatever supervision does. -/
theorem controlled_of_resume {seq : Byte} (h : s.operation = some (.resume seq (s.timing.counter + 1))) :
    s.controlled = s.advanceFrame.superviseStart.activateResume seq := by
  obtain ⟨hoperation, _⟩ := superviseStart_of_resume (s := s.advanceFrame) h
  exact activateDue_of_resume (by rw [hoperation, counter_superviseStart]; exact h)

/-- A SWITCH that is due activates if supervision has left it. -/
theorem controlled_of_switch {seq : Byte} {x : Option Half}
    (h : s.advanceFrame.superviseStart.operation = some (.switch seq (s.timing.counter + 1) x)) :
    s.controlled = s.advanceFrame.superviseStart.activateSwitch seq :=
  activateDue_of_switch (by rw [counter_superviseStart]; exact h)

theorem controlled_of_quiet (hswitch : ∀ seq x, s.operation ≠ some (.switch seq (s.timing.counter + 1) x))
    (hresume : ∀ seq, s.operation ≠ some (.resume seq (s.timing.counter + 1))) :
    s.controlled = s.advanceFrame.superviseStart := by
  rcases s.advanceFrame.operation_superviseStart with hop | hop
  · refine activateDue_of_other (fun seq x => ?_) (fun seq => ?_)
    · rw [hop, counter_superviseStart]
      exact hswitch seq x
    · rw [hop, counter_superviseStart]
      exact hresume seq
  · exact activateDue_of_other (by rw [hop]; nofun) (by rw [hop]; nofun)

/-! ### The protection records before selection (R60, R72) -/

/-- The activation of a RESUME returns the record at an index to rest (R72). -/
def resumeRests (s : State) (i : Fin 128) : Bool :=
  s.map.bankF.entries.get i != (s.bank s.currentBank).entries.get i ||
    match s.exchange.latched with
    | some l => l.entries.get i != (s.bank s.currentBank).entries.get i
    | none => false

theorem get_protectResume (s : State) (i : Fin 128) :
    s.protectResume.protection.get i = if s.resumeRests i then .rest else s.protection.get i := by
  unfold protectResume resumeRests
  cases hlatched : s.exchange.latched with
  | none =>
    refine (Table.get_ofFn _ i).trans ?_
    by_cases hf : s.map.bankF.entries.get i = (s.bank s.currentBank).entries.get i <;> simp [hf]
  | some l =>
    refine (Table.get_ofFn _ i).trans ?_
    by_cases hl : l.entries.get i = (s.bank s.currentBank).entries.get i
    · refine (if_pos hl).trans ((Table.get_ofFn _ i).trans ?_)
      by_cases hf : s.map.bankF.entries.get i = (s.bank s.currentBank).entries.get i <;> simp [hf, hl]
    · simp [hl]

theorem bank_congr {t : State} (h : t.map = s.map) (b : BankId) : t.bank b = s.bank b := by
  unfold State.bank
  rw [h]

theorem resumeRests_congr {t : State} (hmap : t.map = s.map) (hexchange : t.exchange = s.exchange) (i : Fin 128) :
    t.resumeRests i = s.resumeRests i := by
  unfold resumeRests State.currentBank
  rw [bank_congr hmap, hmap, hexchange]

/-- Without a RESUME the records come to the change of frame bank as they are. -/
theorem protection_controlled (h : s.resumeDue = false) : s.controlled.protection = s.protection := by
  have hsupervised : s.advanceFrame.superviseStart.protection = s.protection := s.advanceFrame.protection_superviseStart
  have hnone : ∀ seq, s.operation ≠ some (.resume seq (s.timing.counter + 1)) := fun seq hop =>
    Bool.eq_false_iff.mp h (s.resumeDue_iff.mpr ⟨seq, hop⟩)
  rcases s.advanceFrame.superviseStart.activation_cases with ⟨seq, x, hop⟩ | ⟨seq, hop⟩ | ⟨hswitch, hresume⟩
  · obtain ⟨_, _, _, hprotection⟩ := s.advanceFrame.superviseStart.activateSwitch_frame seq
    rw [controlled, activateDue_of_switch hop, hprotection, hsupervised]
  · rw [counter_superviseStart] at hop
    rcases s.advanceFrame.operation_superviseStart with hkept | hended
    · exact absurd (hkept.symm.trans hop) (hnone seq)
    · exact nomatch hended.symm.trans hop
  · rw [controlled, activateDue_of_other hswitch hresume, hsupervised]

/-- A RESUME that is due makes the current bank the live bank and compares with F and with the frame's entry set. -/
theorem controlled_resumes (h : s.resumeDue = true) :
    s.controlled.map = s.map ∧ s.controlled.isLapsed = false
    ∧ ∀ i, s.controlled.protection.get i =
        if s.resumeRests i then .rest else s.protection.get i := by
  obtain ⟨seq, hop⟩ := s.resumeDue_iff.mp h
  obtain ⟨_, hmap⟩ := superviseStart_of_resume (s := s.advanceFrame) hop
  have hexchange : s.advanceFrame.superviseStart.exchange = s.exchange := s.advanceFrame.controls_superviseStart.exchange
  have hprotection : s.advanceFrame.superviseStart.protection = s.protection := s.advanceFrame.protection_superviseStart
  have hmap : s.advanceFrame.superviseStart.map = s.map := hmap
  rw [controlled_of_resume hop]
  generalize s.advanceFrame.superviseStart = w at *
  obtain ⟨_, ksupervision, kmap, kprotection⟩ := w.activateResume_frame seq
  have hlapsed : w.leaveLapsed.isLapsed = false := w.isLapsed_leaveLapsed
  refine ⟨kmap.trans hmap, ?_, fun i => ?_⟩
  · rw [State.isLapsed, ksupervision]
    exact hlapsed
  · rw [kprotection, get_protectResume, resumeRests_congr (s := s) (t := w.leaveLapsed) hmap hexchange]
    exact if_congr Iff.rfl rfl (congrArg (fun v => Table.get v i) hprotection)

/-- The record at an index returns to rest at this start, before selection (R60, R72). -/
def startRests (s : State) (i : Fin 128) : Bool :=
  (s.resumeDue && s.map.bankF.entries.get i != s.controlled.latchedNow.entries.get i) ||
    match s.exchange.latched with
    | some old =>
        (s.resumeDue || old.bank != s.controlled.liveBank) &&
          old.entries.get i != s.controlled.latchedNow.entries.get i
    | none => false

theorem latchBase_controlled (s : State) (i : Fin 128) :
    s.controlled.latchBase i = if s.startRests i then .rest else s.protection.get i := by
  have hexchange : s.controlled.exchange = s.exchange := s.controls_controlled.exchange
  have hlatched : s.controlled.latchedNow.entries = (s.controlled.bank s.controlled.liveBank).entries := rfl
  unfold latchBase latchRests startRests
  rw [hexchange, hlatched]
  cases hresumes : s.resumeDue with
  | false =>
    rw [protection_controlled hresumes]
    cases s.exchange.latched <;> simp
  | true =>
    obtain ⟨hmap, hlapsed, hprotection⟩ := controlled_resumes hresumes
    have hlive : (s.controlled.bank s.controlled.liveBank).entries = (s.bank s.currentBank).entries := by
      rw [liveBank_of_not_lapsed _ hlapsed, bank_congr hmap, State.currentBank, hmap]
      rfl
    rw [hprotection, hlive]
    unfold resumeRests
    cases s.exchange.latched with
    | none => simp
    | some old =>
      by_cases hold : old.entries.get i = (s.bank s.currentBank).entries.get i <;> simp [hold]

end State

end Sys2Proof.Machine

end

section
/-!
The output frame start as one operation: when it is made, the state its frames are settled in, and what the start reports
(R27, R28, R38 to R43, R109, R117 to R119).
-/

namespace Sys2Proof.Machine

open State

/-! ### When a start is made (R118, R119, R127) -/

theorem sourceReady_iff (tm : Timing) : sourceReady tm ↔ tm.canStart = true := by
  unfold sourceReady Timing.canStart
  rw [← Timing.stopped_iff]
  cases tm.source with
  | timer => simp
  | trunk k => cases tm.owed <;> simp

theorem Timing.advance_eq (tm : Timing) (p : Config.Profile) :
    tm.advance p =
      { tm with counter := tm.counter + 1, now := tm.nextStart p, lastStart := tm.nextStart p, owed := none } :=
  rfl

namespace State

variable {s : State}

theorem startDue_iff (s : State) : s.startDue = true ↔ s.resetHeld = false ∧ sourceReady s.timing := by
  rw [sourceReady_iff]
  unfold startDue
  cases s.resetHeld <;> simp

theorem makeStart_of_ready (hreset : s.resetHeld = false) (hready : sourceReady s.timing) : s.makeStart = s.frameStart :=
  if_pos (s.startDue_iff.mpr ⟨hreset, hready⟩)

theorem makeStart_of_held (hreset : s.resetHeld = true) : s.makeStart = s :=
  if_neg fun hdue => by simp [(s.startDue_iff.mp hdue).1] at hreset

theorem makeStart_of_unready (hready : ¬ sourceReady s.timing) : s.makeStart = s :=
  if_neg fun hdue => hready (s.startDue_iff.mp hdue).2

/-! ### The state the frames are settled in -/

/-- The part with its four frames settled, before the transmitter goes on. -/
def settled (s : State) : State := s.beforeSettling.settleFrames s.beforeSettling.wordDue

theorem built_beforeSettling (s : State) : Built s.controlled s.beforeSettling := s.controlled.built

theorem repeating_eq (s : State) :
    s.repeating = (List.finRange 4).filter fun t => (s.store t).phase == .running && (s.store t).queue == [] := by
  unfold repeating
  congr 1
  funext t
  cases (s.store t).queue <;> rfl

theorem frameStart_eq (s : State) : s.frameStart = withRepeatSlips s s.settled.transmitStart := by
  rw [withRepeatSlips, ← repeating_eq]
  rfl

theorem settled_eq (s : State) :
    s.settled = s.beforeSettling.withExchange
      ⟨some s.controlled.latchedNow,
        some (Table.ofFn (s.beforeSettling.outputFrame s.controlled.latchedNow s.beforeSettling.wordDue))⟩ := by
  have hlatched : s.beforeSettling.exchange.latched = some s.controlled.latchedNow :=
    congrArg Exchange.latched s.built_beforeSettling.exchange
  exact settleFrames_of_latched _ hlatched

theorem latchedNow_withExchange (s : State) (v : Exchange) : (s.withExchange v).latchedNow = s.latchedNow := rfl

theorem latchedNow_settled (s : State) : s.settled.latchedNow = s.controlled.latchedNow := by
  rw [settled_eq, latchedNow_withExchange, latchedNow_of_samePart s.built_beforeSettling.part]

/-! ### What a start reports before its repeat slips -/

theorem buildReports_withExchange (s : State) (v : Exchange) : (s.withExchange v).buildReports = s.buildReports :=
  buildReports_congr rfl rfl

/-- The occurrences of a start up to the settling of its frames. -/
def startReports (s : State) (ev : Event) : List Half :=
  (s.advanceFrame.superviseReports ev ++ if .switchDone = ev then s.advanceFrame.superviseStart.activateReports else []) ++
    ((if .referenceChange = ev then holdoverReports s.timing.state else []) ++
      s.settled.buildReports s.controlled.latchedNow.entries s.controlled.latchBase ev)

theorem occurrences_settled (s : State) : occurrences s s.settled [] s.startReports := by
  have hcontrolled := s.controls_controlled.reported.occurred
  have hbuilt := s.built_beforeSettling.occurred
  rw [s.controls_controlled.timing] at hbuilt
  have hall := occurrences_trans hcontrolled hbuilt
  intro ev hev
  unfold startReports
  rw [settled_eq, record_withExchange, buildReports_withExchange]
  exact hall ev hev

theorem superviseReports_of_other {ev : Event} (hev : ev ≠ .opCancelled ∧ ev ≠ .copyDone ∧ ev ≠ .lapse) :
    s.superviseReports ev = [] := by
  obtain ⟨hcancel, hcopy, hlapse⟩ := hev
  unfold superviseReports
  rw [if_neg (Ne.symm hlapse), List.append_nil, ite_eq_right_iff]
  intro _
  cases ev
  case opCancelled => exact absurd rfl hcancel
  case copyDone => exact absurd rfl hcopy
  all_goals rfl

theorem moveReport_of_other {ev : Event} (hev : ev ≠ .protectionSwitch ∧ ev ≠ .protectionRevert) (i : Fin 128)
    (move : Option ProtMove) : moveReport i move ev = none := by
  obtain ⟨hswitch, hrevert⟩ := hev
  cases ev
  case protectionSwitch => exact absurd rfl hswitch
  case protectionRevert => exact absurd rfl hrevert
  all_goals rcases move with _ | _ | _ | _ <;> rfl

theorem buildReports_of_other {ev : Event} (hev : ev ≠ .protectionSwitch ∧ ev ≠ .protectionRevert ∧ ev ≠ .mixClip)
    (entries : Table 128 Entry) (base : Fin 128 → ProtRecord) : s.buildReports entries base ev = [] := by
  obtain ⟨hswitch, hrevert, hclip⟩ := hev
  unfold buildReports
  simp only [moveReport_of_other ⟨hswitch, hrevert⟩, List.filterMap_none, if_neg (Ne.symm hclip), List.append_nil]

theorem buildReports_protectionSwitch (s : State) (entries : Table 128 Entry) (base : Fin 128 → ProtRecord) :
    s.buildReports entries base .protectionSwitch = (List.finRange 128).filterMap fun i =>
      if (s.selectAt (entries.get i) i (base i)).2 = some .switched then some (BitVec.ofNat 16 i.val) else none := by
  refine (List.append_nil _).trans (congrFun (congrArg List.filterMap (funext fun i => ?_)) _)
  rcases (s.selectAt (entries.get i) i (base i)).2 with _ | _ | _ | _ <;> rfl

theorem buildReports_protectionRevert (s : State) (entries : Table 128 Entry) (base : Fin 128 → ProtRecord) :
    s.buildReports entries base .protectionRevert = (List.finRange 128).filterMap fun i =>
      if (s.selectAt (entries.get i) i (base i)).2 = some .restored then some (BitVec.ofNat 16 i.val)
      else if (s.selectAt (entries.get i) i (base i)).2 = some .alternateFailed then some (BitVec.ofNat 16 (256 + i.val))
      else none := by
  refine (List.append_nil _).trans (congrFun (congrArg List.filterMap (funext fun i => ?_)) _)
  rcases (s.selectAt (entries.get i) i (base i)).2 with _ | _ | _ | _
  case some.restored => exact congrArg (fun n => some (BitVec.ofNat 16 n)) (Nat.zero_add i.val)
  all_goals rfl

theorem buildReports_mixClip (s : State) (entries : Table 128 Entry) (base : Fin 128 → ProtRecord) :
    s.buildReports entries base .mixClip = (List.finRange 128).filterMap fun i =>
      if i ≠ s.reserved ∧ s.mixClips (entries.get i) = true then some (BitVec.ofNat 16 i.val) else none := by
  have hnone : ((List.finRange 128).filterMap fun i => moveReport i (s.selectAt (entries.get i) i (base i)).2 .mixClip) = [] := by
    simp only [moveReport_of_other (ev := .mixClip) ⟨nofun, nofun⟩, List.filterMap_none]
  unfold buildReports
  rw [hnone, if_pos rfl, List.nil_append]

end State

end Sys2Proof.Machine

end

section
/-!
StartBuildsTheFrames: the frame as the protocol states it, read off the parts of the start (R26 to R43, R117).
-/

namespace Sys2Proof.Machine

open State

namespace State

variable {s : State}

/-- The moment of the next start in clock periods, with the period as the straps give it (R118, R119). -/
theorem nextStart_eq (s : State) :
    s.timing.nextStart s.profile =
      match s.timing.source with
      | .timer => max s.timing.now (s.timing.lastStart + framePeriod s)
      | .trunk _ => max s.timing.now (s.timing.owed.getD s.timing.now) := by
  unfold Timing.nextStart
  cases s.timing.source with
  | timer => exact congrArg (fun p => max s.timing.now (s.timing.lastStart + p)) (framePeriod_eq s)
  | trunk k => rfl

theorem timing_settled (s : State) :
    s.settled.timing =
      { s.timing with
        counter := s.timing.counter + 1, now := s.timing.nextStart s.profile, lastStart := s.timing.nextStart s.profile
        owed := none, state := tickedState s.timing.state } := by
  have hcontrolled : s.controlled.timing = s.timing.advance s.profile := s.controls_controlled.timing
  simp only [settled_eq, fields_withExchange, s.built_beforeSettling.timing, hcontrolled, Timing.advance_eq]

/-- What a start leaves in the state its frames are settled in, beside the bank controller and supervision. -/
theorem settled_frame (s : State) :
    s.settled.pending = s.pending ∧ s.settled.resetHeld = s.resetHeld ∧ s.settled.straps = s.straps
    ∧ s.settled.receivers = s.receivers ∧ queueGrew s s.settled
    ∧ s.settled.events.mask = s.events.mask ∧ s.settled.events.interval = s.events.interval
    ∧ s.settled.events.renotify = renotifyCount s.events ∧ ∀ t, s.settled.store t = (s.store t).designated := by
  have hc := s.controls_controlled
  have hb := s.built_beforeSettling
  have hsettled := s.settled_eq
  obtain ⟨hmask, hinterval, hrenotify⟩ := hc.reported.settings
  have hstores (t : Trunk) : s.controlled.store t = s.store t := congrArg (fun v => Table.get v t) hc.stores
  generalize s.settled = u, s.beforeSettling = b, s.controlled = c at *
  subst hsettled
  refine ⟨hb.part.pending.trans hc.pending, hb.part.resetHeld.trans hc.resetHeld, hb.part.straps.trans hc.straps,
    hb.part.receivers.trans hc.receivers, ?_, hb.mask.trans hmask, hb.interval.trans hinterval, ?_, fun t => ?_⟩
  · obtain ⟨l, hl, hchannel⟩ := hc.reported.grew
    obtain ⟨m, hm, hchannel'⟩ := hb.grew
    refine ⟨l ++ m, fun it hit => (List.mem_append.mp hit).elim (hl it) (hm it), ?_⟩
    exact hchannel'.trans (by rw [hchannel, List.append_assoc]; rfl)
  · exact hb.renotify.trans (by rw [renotifyCount, renotifyCount, hinterval, hrenotify]; rfl)
  · exact (hb.store t).trans (congrArg Store.designated (hstores t))

/-- The bank controller and supervision have what activation leaves them. -/
theorem settled_control (s : State) :
    s.settled.map = s.controlled.map ∧ s.settled.operation = s.controlled.operation
    ∧ s.settled.supervision = s.controlled.supervision := by
  have hb := s.built_beforeSettling
  have hsettled := s.settled_eq
  generalize s.settled = u, s.beforeSettling = b, s.controlled = c at *
  subst hsettled
  exact ⟨hb.part.map, hb.part.operation, hb.part.supervision⟩

theorem liveBank_settled (s : State) : s.settled.liveBank = s.controlled.liveBank := by
  rw [settled_eq, liveBank_withExchange, s.built_beforeSettling.part.liveBank]

/-- Selection at an index, with the reserved index and the failing terms as parameters (R46, R49). -/
def selectOver (reserved : Fin 128) (fails : Term → Bool) (entry : Entry) (i : Fin 128) (r : ProtRecord) :
    ProtRecord × Option ProtMove :=
  match entry with
  | .route p (some a) => if i = reserved then (r, none) else r.select a (fails p) (fails a.term)
  | _ => (r, none)

theorem selectAt_eq (s : State) (entry : Entry) (i : Fin 128) (r : ProtRecord) :
    s.selectAt entry i r = selectOver s.reserved s.termFails entry i r := rfl

theorem entries_settled (s : State) :
    (s.settled.bank s.settled.liveBank).entries = s.controlled.latchedNow.entries := by
  rw [← latchedNow_settled, latchedNow]

theorem protection_settled (s : State) (i : Fin 128) :
    s.settled.protection.get i =
      (s.settled.selectAt (s.controlled.latchedNow.entries.get i) i (s.controlled.latchBase i)).1 := by
  have hb := s.built_beforeSettling
  have hsettled := s.settled_eq
  generalize s.settled = u, s.beforeSettling = b, s.controlled = c at *
  subst hsettled
  exact hb.protection i

/-! ### A start at which neither supervision nor the bank controller acts -/

theorem activateReports_of_quiet (hswitch : ∀ seq n x, s.operation = some (.switch seq n x) → n ≠ s.timing.counter + 1)
    (hresume : ∀ seq n, s.operation = some (.resume seq n) → n ≠ s.timing.counter + 1) :
    s.advanceFrame.superviseStart.activateReports = [] := by
  rcases s.advanceFrame.operation_superviseStart with hop | hop
  · refine activateReports_of_other (fun seq x h => ?_) (fun seq h => ?_)
    · rw [hop, counter_superviseStart] at h
      exact hswitch seq _ x h rfl
    · rw [hop, counter_superviseStart] at h
      exact hresume seq _ h rfl
  · exact activateReports_of_other (by rw [hop]; nofun) (by rw [hop]; nofun)

theorem settled_quiet (hswitch : ∀ seq n x, s.operation = some (.switch seq n x) → n ≠ s.timing.counter + 1)
    (hresume : ∀ seq n, s.operation = some (.resume seq n) → n ≠ s.timing.counter + 1) :
    (∀ c, s.supervision.state = .watching c → 2 ≤ c →
      s.settled.supervision = { s.supervision with state := .watching (c - 1) } ∧ s.settled.operation = s.operation ∧
        s.settled.map = s.map)
    ∧ ((∀ c, s.supervision.state ≠ .watching c) →
      s.settled.supervision = s.supervision ∧ s.settled.operation = s.operation ∧ s.settled.map = s.map) := by
  obtain ⟨hmap, hoperation, hsupervision⟩ := s.settled_control
  have hcontrolled := controlled_of_quiet (s := s) (fun seq x h => hswitch seq _ x h rfl) (fun seq h => hresume seq _ h rfl)
  rw [hmap, hoperation, hsupervision, hcontrolled]
  refine ⟨fun c hst hc => ?_, fun hst => ?_⟩
  · rw [superviseStart_of_counting (s := s.advanceFrame) hst hc]
    exact ⟨rfl, rfl, rfl⟩
  · rw [superviseStart_of_unwatched (s := s.advanceFrame) hst]
    exact ⟨rfl, rfl, rfl⟩

/-! ### The frames (R38 to R43) -/

/-- The frames of a state that has the receivers and straps of `s`, from its own live bank. -/
theorem outputFrame_latchedNow {u : State} (hreceivers : u.receivers = s.receivers) (hstraps : u.straps = s.straps)
    (word : SlotRecord) :
    u.outputFrame u.latchedNow word = fun t =>
      sentFrame (u.timing.counter.extractLsb' 0 4)
        (match (s.receiver t).align with
          | .search => true
          | .verify _ _ => true
          | _ => false)
        (u.liveBank == .f)
        (Table.ofFn fun sl =>
          if slotIndex t sl = s.reserved then word
          else u.trafficSlot ((u.bank u.liveBank).entries.get (slotIndex t sl)) (u.protection.get (slotIndex t sl))) := by
  have hreceiver (t : Trunk) : u.receiver t = s.receiver t := congrArg (fun v => Table.get v t) hreceivers
  have hreserved : u.reserved = s.reserved := reserved_congr hstraps
  funext t
  unfold outputFrame fetOf outputSlot
  rw [hreceiver, hreserved]
  cases (s.receiver t).align <;> rfl

theorem exchange_settled (s : State) :
    s.settled.exchange = ⟨some s.controlled.latchedNow,
      some (Table.ofFn (s.settled.outputFrame s.controlled.latchedNow s.beforeSettling.wordDue))⟩ := by
  have hsettled := s.settled_eq
  generalize s.settled = u, s.beforeSettling = b, s.controlled = c at *
  subst hsettled
  rfl

theorem latched_settled (s : State) :
    s.settled.exchange.latched = some ⟨s.settled.liveBank, (s.settled.bank s.settled.liveBank).entries⟩ := by
  rw [exchange_settled, ← latchedNow_settled, latchedNow]

/-- The four frames, over the state the transmitter goes on from. -/
theorem output_settled (s : State) :
    s.settled.exchange.output = some (Table.ofFn fun t =>
      sentFrame (s.settled.timing.counter.extractLsb' 0 4)
        (match (s.receiver t).align with
          | .search => true
          | .verify _ _ => true
          | _ => false)
        (s.settled.liveBank == .f)
        (Table.ofFn fun sl =>
          if slotIndex t sl = s.reserved then s.beforeSettling.wordDue
          else s.settled.trafficSlot ((s.settled.bank s.settled.liveBank).entries.get (slotIndex t sl))
            (s.settled.protection.get (slotIndex t sl)))) := by
  obtain ⟨_, _, hstraps, hreceivers, _⟩ := s.settled_frame
  rw [exchange_settled, ← latchedNow_settled, outputFrame_latchedNow hreceivers hstraps]

/-- Beside supervision and the bank controller, a start reports the end of a holdover and what it builds. -/
theorem startReports_of_built {ev : Event} (hev : ev ∉ [.switchDone, .opCancelled, .copyDone, .lapse]) :
    s.startReports ev =
      (if .referenceChange = ev then holdoverReports s.timing.state else []) ++
        s.settled.buildReports s.controlled.latchedNow.entries s.controlled.latchBase ev := by
  simp only [List.mem_cons, List.not_mem_nil, or_false, not_or] at hev
  obtain ⟨hswitch, hothers⟩ := hev
  rw [startReports, superviseReports_of_other hothers, if_neg (Ne.symm hswitch), List.nil_append, List.nil_append]

theorem channel_settled (s : State) : s.settled.channel = s.beforeSettling.channel := by
  simp only [settled_eq, fields_withExchange]

theorem transmitter_settled (s : State) : s.settled.channel.transmitter = s.channel.transmitter := by
  obtain ⟨_, _, _, _, ⟨l, _, hchannel⟩, _⟩ := s.settled_frame
  rw [hchannel]

/-! ### The transmitter's word (R147) -/

theorem transmitter_beforeSettling (s : State) : s.beforeSettling.channel.transmitter = s.channel.transmitter := by
  rw [← channel_settled, transmitter_settled]

theorem word_of_sending {it : TxItem} {k : Nat} {a : Bool} (h : s.channel.transmitter = .sending it k a) :
    s.beforeSettling.wordDue = ⟨it.message.words.getD k 0, .data⟩ := by
  rw [wordDue, transmitter_beforeSettling, h]
  rfl

theorem word_of_gap (h : s.channel.transmitter = .gap) : s.beforeSettling.wordDue = ⟨0, .idle⟩ := by
  rw [wordDue, transmitter_beforeSettling, h]
  rfl

/-- The choice is from the queue as the notices of the start leave it. -/
theorem word_of_idle (h : s.channel.transmitter = .idle) :
    s.beforeSettling.wordDue =
      match State.choose s.settled.channel.txQueue s.settled.channel.streak with
      | some (it, _) => ⟨it.message.words.getD 0 0, .data⟩
      | none => ⟨0, .idle⟩ := by
  rw [wordDue, transmitter_beforeSettling, h, channel_settled]
  cases State.choose s.beforeSettling.channel.txQueue s.beforeSettling.channel.streak <;> rfl

end State

end Sys2Proof.Machine

open Sys2Proof Sys2Proof.Machine Sys2Proof.Machine.State

/-- Settles O46: the state before the transmitter goes on is the one asked for, part by part of the start. -/
theorem startBuildsTheFrames : Obligations.StartBuildsTheFrames := by
  intro s hreset hready
  obtain ⟨hpending, hheld, hstraps, hreceivers, hgrew, hmask, hinterval, hrenotify, hstore⟩ := s.settled_frame
  have hoccurred := s.occurrences_settled
  have hexec : exec .outputFrameStart s = .next (withRepeatSlips s s.settled.transmitStart) := by
    rw [← frameStart_eq, ← makeStart_of_ready hreset hready]
    rfl
  refine ⟨s.settled, hexec, ?timing, hpending, hheld, hstraps, hreceivers, hgrew, hmask, hinterval, hrenotify,
    fun hswitch hresume => ?quiet, fun t => ?store, ?frames⟩
  case timing =>
    rw [timing_settled, nextStart_eq]
    cases s.timing.state <;> rfl
  case quiet =>
    obtain ⟨hcounting, hunwatched⟩ := settled_quiet hswitch hresume
    refine ⟨hcounting, hunwatched, fun hsupervision ev hev => ?_⟩
    refine (hoccurred ev nofun).trans (congrArg (EventRecord.after _) ?_)
    unfold startReports
    rw [superviseReports_of_quiet (s := s.advanceFrame) hsupervision, activateReports_of_quiet hswitch hresume, ite_self,
      buildReports_of_other, if_neg]
    · rfl
    · rintro rfl
      simp at hev
    · refine ⟨?_, ?_, ?_⟩
      all_goals
        rintro rfl
        simp at hev
  case store =>
    rw [hstore]
    rfl
  case frames =>
    intro entries resumes changed base selected
    have hentries : entries = s.controlled.latchedNow.entries := s.entries_settled
    have hresumes : resumes = s.resumeDue := rfl
    have hbase : base = s.controlled.latchBase := by
      funext i
      rw [latchBase_controlled, startRests, ← hentries, ← hresumes, ← liveBank_settled]
      rfl
    have hselected (i : Fin 128) : selected i = s.settled.selectAt (entries.get i) i (base i) := by
      have hreserved : s.settled.reserved = s.reserved := reserved_congr hstraps
      rw [selectAt_eq, hreserved]
      clear_value entries base
      rfl
    refine ⟨?latched, fun i => ?record, fun ev hev => ?reports, s.beforeSettling.wordDue, fun it k a h => ?sending,
      fun h => ?gap, fun h => ?choice, ?output⟩
    case latched => exact s.latched_settled
    case record =>
      rw [hselected, hbase, hentries]
      exact s.protection_settled i
    case reports =>
      have hreports := startReports_of_built (s := s) hev
      rw [← hentries, ← hbase] at hreports
      refine (hoccurred ev nofun).trans (congrArg (EventRecord.after _) (hreports.trans ?_))
      cases ev
      case referenceChange =>
        rw [buildReports_of_other (by decide), List.append_nil, if_pos rfl]
        cases s.timing.state <;> rfl
      case protectionSwitch =>
        simp only [hselected]
        exact (List.nil_append _).trans (buildReports_protectionSwitch s.settled entries base)
      case protectionRevert =>
        simp only [hselected]
        exact (List.nil_append _).trans (buildReports_protectionRevert s.settled entries base)
      case mixClip =>
        rw [← reserved_congr hstraps]
        exact (List.nil_append _).trans (buildReports_mixClip s.settled entries base)
      case switchDone => simp at hev
      case opCancelled => simp at hev
      case copyDone => simp at hev
      case lapse => simp at hev
      all_goals exact (List.nil_append _).trans (buildReports_of_other (s := s.settled) (by decide) entries base)
    case sending => exact s.word_of_sending h
    case gap => exact s.word_of_gap h
    case choice =>
      refine (s.word_of_idle h).trans ?_
      cases State.choose s.settled.channel.txQueue s.settled.channel.streak <;> rfl
    case output => exact s.output_settled

end

section
/-!
What falls due at a start: the bank controller and supervision by cause, and the SENT records that are reported again
(R68 to R72, R125, R161, R162, R166, R177).
-/

namespace Sys2Proof.Machine

open State

/-! ### A SENT record stays SENT until re-notify (R172, R177) -/

/-- From `s` to `u` the SENT records have stayed SENT, and interval and count have not been touched. -/
structure SentStands (s u : State) : Prop where
  interval : u.events.interval = s.events.interval
  renotify : u.events.renotify = s.events.renotify
  sent : ∀ e, (s.record e).notice = .sent → (u.record e).notice = .sent

theorem EventRecord.sent_occurred {r : EventRecord} (h : r.notice = .sent) (d : Half) (masked : Bool) :
    (occurred r d masked).notice = .sent := by
  simp [occurred, h]

namespace SentStands

variable {s : State}

theorem occurrences (s : State) : KeptByOccurrences (SentStands s) where
  raised u ev d h := by
    rw [raise_eq]
    obtain ⟨_, hinterval, hrenotify⟩ := settings_offerFrom (List.finRange 16)
      (u.withEvents (u.events.setRecord ev.num (u.occurredRecord ev d)))
    refine ⟨hinterval.trans h.interval, hrenotify.trans h.renotify, fun e hsent => ?_⟩
    have hset : ((u.withEvents (u.events.setRecord ev.num (u.occurredRecord ev d))).record e).notice = .sent := by
      by_cases he : e = ev.num
      · subst he
        simpa [occurredRecord] using EventRecord.sent_occurred (h.sent _ hsent) d _
      · simpa [he] using h.sent e hsent
    rcases record_offerFrom (List.finRange 16) (u.withEvents (u.events.setRecord ev.num (u.occurredRecord ev d))) e
      with hkept | ⟨howed, _⟩
    · rw [hkept, hset]
    · exact nomatch hset.symm.trans howed

/-- What is not a record's change keeps them. -/
theorem of_events {u t : State} (h : SentStands s u) (hevents : t.events = u.events) : SentStands s t :=
  ⟨by rw [hevents, h.interval], by rw [hevents, h.renotify],
    fun e hsent => by rw [State.record, hevents]; exact h.sent e hsent⟩

theorem carriesLines (s : State) : CarriesLines (SentStands s) where
  toKeptByOccurrences := occurrences s
  aborted u h := by
    unfold State.assemblerLosesLock
    split
    · exact h
    · exact (occurrences s).raise _ _ (h.of_events rfl)
    · exact h.of_events rfl
  receivers _ _ h := h.of_events rfl
  stores _ _ h := h.of_events rfl
  timing _ _ h := h.of_events rfl

theorem carriesBanks (s : State) : CarriesBanks (SentStands s) where
  toKeptByOccurrences := occurrences s
  map _ _ h := h.of_events rfl
  exchange _ _ h := h.of_events rfl
  protection _ _ h := h.of_events rfl
  operation _ _ h := h.of_events rfl
  supervision _ _ h := h.of_events rfl

/-- Up to re-notify a start leaves them SENT. -/
theorem exchangeStart (s : State) :
    SentStands s (s.advanceFrame.superviseStart.activateDue.holdoverStart.designateAll.exchangeStart) := by
  have hL := carriesLines s
  have hB := carriesBanks s
  have hstart : SentStands s s.advanceFrame := hL.advanceFrame ⟨rfl, rfl, fun _ => id⟩
  have hdesignated := hL.designateAll (hL.holdoverStart (hB.activateDue (hB.superviseStart hstart)))
  exact (occurrences s).raiseAll _ ((occurrences s).raiseAll _ (hB.protection _ _ (hB.latchFrameBank hdesignated)))

end SentStands

theorem Timing.holdoverDue_iff (tm : Timing) : tm.holdoverDue = true ↔ ∃ t c, tm.state = .holdover t c ∧ c ≤ 1 := by
  unfold holdoverDue
  cases tm.state <;> simp

namespace State

variable {s : State}

theorem renotifyDue_iff (s : State) : s.renotifyDue = true ↔ s.events.interval ≠ 0 ∧ s.events.renotify ≤ 1 := by
  simp [renotifyDue]

/-- At the start at which the count runs out, every SENT record is reported again. -/
theorem notice_renotifyStart {e : Fin 16} (hdue : s.renotifyDue = true) (h : (s.record e).notice = .sent) :
    (s.renotifyStart.record e).notice = .owed ∨ (s.renotifyStart.record e).notice = .queued := by
  obtain ⟨hinterval, hrenotify⟩ := s.renotifyDue_iff.mp hdue
  have howed : (s.renotifyOwed.record e).notice = .owed := by
    refine (congrArg EventRecord.notice (Table.get_ofFn _ e)).trans ?_
    rw [if_pos h]
  rw [renotifyStart_eq, if_neg hinterval, if_pos hrenotify]
  rcases record_offerFrom (List.finRange 16) s.renotifyOwed e with hkept | ⟨_, hqueued⟩
  · rw [offerNotices, hkept]
    exact .inl howed
  · rw [offerNotices, hqueued]
    exact .inr rfl

theorem notice_settled {e : Fin 16} (hdue : s.renotifyDue = true) (h : (s.record e).notice = .sent) :
    (s.settled.record e).notice = .owed ∨ (s.settled.record e).notice = .queued := by
  have hstands := SentStands.exchangeStart s
  rw [settled_eq, record_withExchange]
  refine notice_renotifyStart ?_ (hstands.sent e h)
  rwa [renotifyDue, hstands.interval, hstands.renotify]

/-! ### Supervision at a start, by what it does to the bank controller -/

/-- Without an expiry supervision leaves operation and map, and LAPSED as it was. -/
theorem superviseStart_of_quiet (h : ∀ c, s.supervision.state = .watching c → 2 ≤ c) :
    s.superviseStart.operation = s.operation ∧ s.superviseStart.map = s.map ∧ s.superviseStart.isLapsed = s.isLapsed
    ∧ (∀ c, s.supervision.state = .watching c →
        s.superviseStart.supervision = { s.supervision with state := .watching (c - 1) })
    ∧ ((∀ c, s.supervision.state ≠ .watching c) → s.superviseStart.supervision = s.supervision) := by
  rcases s.supervision_cases with ⟨c, hst, hc⟩ | ⟨c, hst, hc⟩ | hst
  · have := h c hst
    omega
  · rw [superviseStart_of_counting hst hc]
    refine ⟨rfl, rfl, ?_, fun c' hst' => ?_, fun hnone => absurd hst (hnone c)⟩
    · simp [isLapsed, hst]
    · obtain rfl : c = c' := by simpa [hst] using hst'
      rfl
  · rw [superviseStart_of_unwatched hst]
    exact ⟨rfl, rfl, rfl, fun c h => absurd h (hst c), fun _ => rfl⟩

/-- An expiry ends a SWITCH, so that none activates at the start that cancels it (R70). -/
theorem controlled_of_expiry {c : Nat} (hst : s.supervision.state = .watching c) (hc : c ≤ 1)
    (hresume : ∀ seq n, s.operation ≠ some (.resume seq n)) : s.controlled = s.advanceFrame.lapseByExpiry := by
  have hexpired := superviseStart_of_expiry (s := s.advanceFrame) hst hc
  obtain ⟨_, _, hoperation, _⟩ := s.advanceFrame.lapseByExpiry_frame
  obtain ⟨hnone, hswitch, hcopyF, hcopy⟩ := (s.advanceFrame.enterLapsed .expiry).lapseOperation_ends .expiry
  have hleft : s.advanceFrame.lapseByExpiry.operation = none
      ∨ ∃ seq src dst n, s.advanceFrame.lapseByExpiry.operation = some (.copy seq src dst n) := by
    rw [hoperation]
    cases hop : s.operation with
    | none => exact .inl (hnone hop).1
    | some op =>
      cases op with
      | switch seq n x => exact .inl (hswitch seq n x hop).1
      | resume seq n => exact absurd hop (hresume seq n)
      | copy seq src dst n =>
        by_cases hdst : dst = .f
        · subst hdst
          exact .inl (hcopyF seq src n hop).1
        · exact .inr ⟨seq, src, dst, n, (hcopy seq src dst n hop hdst).1.trans hop⟩
  rw [controlled, hexpired]
  rcases hleft with h | ⟨seq, src, dst, n, h⟩
  · exact activateDue_of_other (by rw [h]; nofun) (by rw [h]; nofun)
  · exact activateDue_of_other (by rw [h]; nofun) (by rw [h]; nofun)

/-- A SWITCH that is due is gone after the start, whether it activates or is cancelled. -/
theorem operation_controlled_of_switch {seq : Byte} {x : Option Half}
    (h : s.operation = some (.switch seq (s.timing.counter + 1) x)) : s.controlled.operation = none := by
  rcases s.advanceFrame.operation_superviseStart with hkept | hended
  · rw [controlled_of_switch (hkept.trans h)]
    exact (activateSwitch_frame _ seq).1
  · rw [controlled, activateDue_of_other (by rw [hended]; nofun) (by rw [hended]; nofun), hended]

/-- A SWITCH that is due and that supervision leaves exchanges the roles; LAPSED stays as it was (R68, R69). -/
theorem controlled_switches {seq : Byte} {x : Option Half}
    (h : s.operation = some (.switch seq (s.timing.counter + 1) x))
    (hquiet : ∀ c, s.supervision.state = .watching c → 2 ≤ c) :
    s.controlled.map = { s.map with current := s.map.current.other }
    ∧ s.controlled.supervision = s.advanceFrame.superviseStart.supervision ∧ s.controlled.isLapsed = s.isLapsed
    ∧ s.advanceFrame.superviseStart.activateReports =
        [switchDoneDetail s.shadowBank s.controlled.liveBank seq] := by
  obtain ⟨hoperation, hmap, hlapsed, _⟩ := superviseStart_of_quiet (s := s.advanceFrame) hquiet
  have hop := hoperation.trans h
  have hreports := activateReports_of_switch (s := s.advanceFrame.superviseStart) (seq := seq) (x := x)
    (by rw [counter_superviseStart]; exact hop)
  rw [hreports, controlled_of_switch hop]
  have hmap : s.advanceFrame.superviseStart.map = s.map := hmap
  have hlapsed : s.advanceFrame.superviseStart.isLapsed = s.isLapsed := hlapsed
  generalize s.advanceFrame.superviseStart = w at *
  obtain ⟨_, ksupervision, kmap, _⟩ := w.activateSwitch_frame seq
  have kshadow : w.shadowBank = s.shadowBank := by rw [shadowBank, hmap, shadowBank]
  have klive : (w.activateSwitch seq).liveBank = w.exchangeRoles.liveBank := by
    simp [activateSwitch, raiseSwitchDone]
  refine ⟨by rw [kmap, hmap], ksupervision, ?_, by rw [kshadow, klive]⟩
  rw [State.isLapsed, ksupervision]
  exact hlapsed

/-! ### The reports by event -/

theorem startReports_switchDone (s : State) :
    s.startReports .switchDone = s.advanceFrame.superviseStart.activateReports := by
  rw [startReports, superviseReports_of_other (by decide), buildReports_of_other (by decide)]
  exact List.append_nil _

theorem startReports_of_supervision {ev : Event} (hev : ev = .opCancelled ∨ ev = .copyDone ∨ ev = .lapse) :
    s.startReports ev = s.advanceFrame.superviseReports ev := by
  rcases hev with rfl | rfl | rfl
  all_goals
    rw [startReports, buildReports_of_other (by decide)]
    exact (List.append_nil _).trans (List.append_nil _)

theorem startReports_referenceChange (s : State) : s.startReports .referenceChange = holdoverReports s.timing.state := by
  rw [startReports_of_built (by decide), buildReports_of_other (by decide), if_pos rfl, List.append_nil]

theorem facts_settled (s : State) (ev : Event) :
    (s.settled.record ev.num).facts = (s.record ev.num).after (s.startReports ev) :=
  s.occurrences_settled ev nofun

/-! ### The state the frames are settled in, by what fell due -/

/-- The start at which a SWITCH activates (R68, R69). -/
theorem settled_of_switch {seq : Byte} {x : Option Half} (h : s.operation = some (.switch seq (s.timing.counter + 1) x))
    (hquiet : ∀ c, s.supervision.state = .watching c → 2 ≤ c) :
    s.settled.map = { s.map with current := s.map.current.other }
    ∧ s.settled.supervision = s.advanceFrame.superviseStart.supervision
    ∧ (s.isLapsed = false → s.settled.liveBank = s.shadowBank) ∧ (s.isLapsed = true → s.settled.liveBank = .f)
    ∧ s.startReports .switchDone = [switchDoneDetail s.shadowBank s.settled.liveBank seq] := by
  obtain ⟨hmap, _, hsupervision⟩ := s.settled_control
  obtain ⟨kmap, ksupervision, klapsed, kreports⟩ := controlled_switches h hquiet
  rw [hmap, hsupervision, liveBank_settled, startReports_switchDone]
  refine ⟨kmap, ksupervision, fun hlapsed => ?_, fun hlapsed => liveBank_of_lapsed _ (klapsed.trans hlapsed), kreports⟩
  rw [liveBank_of_not_lapsed _ (klapsed.trans hlapsed), currentBank, kmap]
  rfl

/-- The start at which a RESUME activates (R72, R166). -/
theorem settled_of_resume {seq : Byte} (h : s.operation = some (.resume seq (s.timing.counter + 1)))
    (hlapsed : s.isLapsed = true) :
    s.settled.operation = none ∧ s.settled.map = s.map ∧ s.settled.liveBank = s.currentBank
    ∧ s.settled.supervision = s.leaveLapsed.supervision
    ∧ s.startReports .switchDone = [switchDoneDetail s.currentBank s.currentBank seq] := by
  obtain ⟨hmap, hoperation, hsupervision⟩ := s.settled_control
  obtain ⟨kmap, klapsed, _⟩ := controlled_resumes (s := s) (s.resumeDue_iff.mpr ⟨seq, h⟩)
  obtain ⟨kend, ksupervision, _⟩ := s.advanceFrame.activateResume_frame seq
  have hunwatched : s.advanceFrame.superviseStart = s.advanceFrame :=
    superviseStart_of_unwatched (s := s.advanceFrame) fun c hst => by
      rw [isLapsed, show s.supervision.state = .watching c from hst] at hlapsed
      cases hlapsed
  have hcontrolled := controlled_of_resume h
  rw [hunwatched] at hcontrolled
  refine ⟨?_, hmap.trans kmap, ?_, ?_, ?_⟩
  · rw [hoperation, hcontrolled, kend]
  · rw [liveBank_settled, liveBank_of_not_lapsed _ klapsed, currentBank, kmap]
    rfl
  · rw [hsupervision, hcontrolled, ksupervision]
    rfl
  · rw [startReports_switchDone, hunwatched, activateReports_of_resume (s := s.advanceFrame) h]
    rfl

/-- The start at which supervision expires (R161, R162). -/
theorem settled_of_expiry {c : Nat} (hst : s.supervision.state = .watching c) (hc : c ≤ 1)
    (hresume : ∀ seq n, s.operation ≠ some (.resume seq n)) :
    s.settled.supervision = { s.supervision with state := .lapsed .expiry } ∧ s.settled.liveBank = .f
    ∧ s.settled.operation = ((s.advanceFrame.enterLapsed .expiry).lapseOperation .expiry).operation
    ∧ s.settled.map = ((s.advanceFrame.enterLapsed .expiry).lapseOperation .expiry).map
    ∧ ∀ ev, ev = .opCancelled ∨ ev = .copyDone ∨ ev = .lapse → s.startReports ev =
        lapseEndReports .expiry s.operation ev ++ if .lapse = ev then [lapseDetail .expiry] else [] := by
  obtain ⟨hmap, hoperation, hsupervision⟩ := s.settled_control
  obtain ⟨ksupervision, _, kend, kmap⟩ := s.advanceFrame.lapseByExpiry_frame
  have hcontrolled := controlled_of_expiry hst hc hresume
  have hlapsed : s.controlled.isLapsed = true := by
    rw [hcontrolled, isLapsed, ksupervision]
  rw [hmap, hoperation, hsupervision, liveBank_settled, liveBank_of_lapsed _ hlapsed, hcontrolled, ksupervision, kend, kmap]
  exact ⟨rfl, rfl, rfl, rfl, fun ev hev =>
    (startReports_of_supervision hev).trans (superviseReports_of_expiry (s := s.advanceFrame) hst hc ev)⟩

/-! ### The commands of the starts -/

/-- A command whose start is due makes the whole start. -/
theorem exec_start {i : Instr} (hreset : s.resetHeld = false) (hready : sourceReady s.timing)
    (h : exec i s = .next s.makeStart) :
    exec i s = .next (withRepeatSlips s s.settled.transmitStart) ∧ exec .outputFrameStart s = exec i s := by
  have hstart : exec .outputFrameStart s = .next s.makeStart := rfl
  exact ⟨by rw [h, makeStart_of_ready hreset hready, frameStart_eq], hstart.trans h.symm⟩

end State

end Sys2Proof.Machine

open Sys2Proof Sys2Proof.Machine Sys2Proof.Machine.State

/-- Settles O47: each command makes the start in full, and the start has what falls due in the order of its parts. -/
theorem dueOccurrencesHappenAtTheirStart : Obligations.DueOccurrencesHappenAtTheirStart := by
  intro s hreset hready makes had
  have hmakes (i : Instr) (h : exec i s = .next s.makeStart) : makes i s.settled := exec_start hreset hready h
  have hhad (ev : Event) (ds : List Half) (h : s.startReports ev = ds) : had s.settled ev ds :=
    h ▸ s.facts_settled ev
  obtain ⟨_, hoperation, _⟩ := s.settled_control
  refine ⟨fun seq n x hop hn => ⟨s.settled, hmakes _ ?switches, ?ended, fun hquiet => ?switch, fun c hst hc => ?lapsing⟩,
    fun seq n hop hn hlapsed => ⟨s.settled, hmakes _ ?resumes, ?resume⟩,
    fun c hst hc hresume => ⟨s.settled, hmakes _ ?expires, ?expiry⟩,
    fun t c hst hc => ⟨s.settled, hmakes _ ?drops, ?holdover⟩,
    fun hinterval hcount => ⟨s.settled, hmakes _ ?renotifies, ?renotify⟩,
    fun h => ?noSwitch, fun h => ?noResume, fun h => ?noExpiry, fun h => ?noHoldover, fun h => ?noRenotify⟩
  case switches => exact congrArg Host.Outcome.next (if_pos (s.switchDue_iff.mpr ⟨seq, x, hn ▸ hop⟩))
  case resumes => exact congrArg Host.Outcome.next (if_pos (s.resumeDue_iff.mpr ⟨seq, hn ▸ hop⟩))
  case expires => exact congrArg Host.Outcome.next (if_pos (s.expiryDue_iff.mpr ⟨c, hst, hc⟩))
  case drops => exact congrArg Host.Outcome.next (if_pos (s.timing.holdoverDue_iff.mpr ⟨t, c, hst, hc⟩))
  case renotifies => exact congrArg Host.Outcome.next (if_pos (s.renotifyDue_iff.mpr ⟨hinterval, hcount⟩))
  case ended =>
    subst hn
    rw [hoperation, operation_controlled_of_switch hop]
  case switch =>
    subst hn
    obtain ⟨_, _, _, hcounting, hunwatched⟩ := superviseStart_of_quiet (s := s.advanceFrame) hquiet
    obtain ⟨kmap, ksupervision, kother, kf, kreports⟩ := settled_of_switch hop hquiet
    have hnothing (ev : Event) (hev : ev = .opCancelled ∨ ev = .copyDone ∨ ev = .lapse) : had s.settled ev [] :=
      hhad ev [] ((startReports_of_supervision hev).trans (superviseReports_of_quiet (s := s.advanceFrame) hquiet ev))
    exact ⟨kmap, fun c hst => ksupervision.trans (hcounting c hst), fun hst => ksupervision.trans (hunwatched hst),
      kother, kf, hhad _ _ kreports, hnothing _ (.inl rfl), hnothing _ (.inr (.inr rfl))⟩
  case lapsing =>
    obtain ⟨_, _, _, kmap, _⟩ := settled_of_expiry hst hc (by rw [hop]; nofun)
    obtain ⟨_, _, kend, _⟩ := s.advanceFrame.lapseByExpiry_frame
    obtain ⟨_, hswitch, _⟩ := (s.advanceFrame.enterLapsed .expiry).lapseOperation_ends .expiry
    obtain ⟨hnone, hsame⟩ := hswitch seq n x hop
    refine ⟨kmap.trans hsame, hhad _ _ (s.startReports_switchDone.trans ?_)⟩
    have hgone := kend.trans hnone
    rw [superviseStart_of_expiry (s := s.advanceFrame) hst hc]
    exact activateReports_of_other (by rw [hgone]; nofun) (by rw [hgone]; nofun)
  case resume =>
    subst hn
    obtain ⟨kend, kmap, klive, ksupervision, kreports⟩ := settled_of_resume hop hlapsed
    exact ⟨kend, kmap, klive, ksupervision, hhad _ _ kreports⟩
  case expiry =>
    obtain ⟨ksupervision, klive, kend, kmap, kreports⟩ := settled_of_expiry hst hc hresume
    obtain ⟨hnone, hswitch, hcopyF, hcopy⟩ := (s.advanceFrame.enterLapsed .expiry).lapseOperation_ends .expiry
    have hcancelled := kreports .opCancelled (.inl rfl)
    have hcopied := kreports .copyDone (.inr (.inl rfl))
    rw [kend, kmap]
    refine ⟨ksupervision, klive, hhad _ _ (kreports .lapse (.inr (.inr rfl))), fun hop => ?_, fun seq n x hop => ?_,
      fun seq src m hop => ?_, fun seq src dst m hop hdst => hcopy seq src dst m hop hdst⟩
    all_goals rw [hop] at hcancelled hcopied
    · obtain ⟨hgone, hsame⟩ := hnone hop
      exact ⟨hgone, hsame, hhad _ _ hcancelled, hhad _ _ hcopied⟩
    · obtain ⟨hgone, hsame⟩ := hswitch seq n x hop
      exact ⟨hgone, hsame, hhad _ _ hcancelled⟩
    · obtain ⟨hgone, hbumped⟩ := hcopyF seq src m hop
      exact ⟨hgone, hbumped, hhad _ _ hcopied⟩
  case holdover =>
    rw [timing_settled]
    refine ⟨?_, rfl, hhad _ _ (s.startReports_referenceChange.trans ?_)⟩
    · simp only [tickedState, hst, if_pos hc]
    · simp only [holdoverReports, hst, if_pos hc]
  case renotify =>
    obtain ⟨_, _, _, _, _, _, _, hrenotify, _⟩ := s.settled_frame
    refine ⟨?_, fun e hsent => notice_settled (s.renotifyDue_iff.mpr ⟨hinterval, hcount⟩) hsent⟩
    rw [hrenotify, renotifyCount, if_neg hinterval, if_pos hcount]
  case noSwitch => exact congrArg Host.Outcome.next (if_neg fun hdue => by
    obtain ⟨seq, x, hop⟩ := s.switchDue_iff.mp hdue
    exact h seq _ x hop rfl)
  case noResume => exact congrArg Host.Outcome.next (if_neg fun hdue => by
    obtain ⟨seq, hop⟩ := s.resumeDue_iff.mp hdue
    exact h seq _ hop rfl)
  case noExpiry => exact congrArg Host.Outcome.next (if_neg fun hdue => by
    obtain ⟨c, hst, hc⟩ := s.expiryDue_iff.mp hdue
    have := h c hst
    omega)
  case noHoldover => exact congrArg Host.Outcome.next (if_neg fun hdue => by
    obtain ⟨t, c, hst, hc⟩ := s.timing.holdoverDue_iff.mp hdue
    have := h t c hst
    omega)
  case noRenotify => exact congrArg Host.Outcome.next (if_neg fun hdue => by
    obtain ⟨hinterval, hcount⟩ := s.renotifyDue_iff.mp hdue
    rcases h with h | h
    · exact hinterval h
    · omega)

end

section
/-!
The output frame counter by command (R117).
-/

namespace Sys2Proof.Machine

open State

/-! ### What happens on the lines moves no clock but the time that passes -/

namespace SameClock

variable {tm : Timing} {pins : Straps} {s : State}

theorem setReceiver (h : SameClock tm pins s) (t : Trunk) (r : Receiver) : SameClock tm pins (s.setReceiver t r) :=
  h.congr rfl rfl

theorem gainLock (h : SameClock tm pins s) (t : Trunk) (r : Receiver) : SameClock tm pins (s.gainLock t r) :=
  bankFree.raise _ _ (s := ((s.setReceiver t r).primeStore t).withTiming (s.timing.resetDelivered t))
    ⟨h.counter, h.now, h.lastStart, h.straps⟩

theorem receiverSearches (h : SameClock tm pins s) (t : Trunk) (line : List Bool) :
    SameClock tm pins (s.receiverSearches t line) := by
  simp only [State.receiverSearches]
  split
  · exact h.setReceiver t _
  · exact h

theorem receiverVerifies (h : SameClock tm pins s) (t : Trunk) (line : List Bool) :
    SameClock tm pins (s.receiverVerifies t line) := by
  simp only [State.receiverVerifies]
  split
  · split
    · exact h.setReceiver t _
    · split
      · split
        · exact h.setReceiver t _
        · exact h.gainLock t _
      · exact h.setReceiver t _
  · exact h

theorem receiverAtBoundary (h : SameClock tm pins s) (t : Trunk) (window : BitVec 12) :
    SameClock tm pins (s.receiverAtBoundary t window) := by
  simp only [State.receiverAtBoundary]
  split
  · split
    · exact h.setReceiver t _
    · split
      · exact h.setReceiver t _
      · exact h.loseLock t _
  · exact h

theorem receiverSignalLoss (h : SameClock tm pins s) (t : Trunk) : SameClock tm pins (s.receiverSignalLoss t) := by
  simp only [State.receiverSignalLoss]
  split
  · exact h
  · split
    · exact h.loseLock t _
    · exact h.setReceiver t _

theorem receiverSignalReturn (h : SameClock tm pins s) (t : Trunk) : SameClock tm pins (s.receiverSignalReturn t) := by
  simp only [State.receiverSignalReturn]
  split
  · exact h
  · exact h.setReceiver t _

theorem storeDelivery (h : SameClock tm pins s) (t : Trunk) (fr : FrameRecord) :
    SameClock tm pins (s.storeDelivery t fr) := by
  simp only [State.storeDelivery]
  split
  · exact h
  · exact h.congr rfl rfl
  · split
    · exact h.congr rfl rfl
    · exact bankFree.raise _ _ (h.congr rfl rfl)

theorem repeatSlips (h : SameClock tm pins s) (l : List Trunk) : SameClock tm pins (l.foldl repeatSlip s) :=
  List.foldlRecOn l _ h fun _ hu _ _ => bankFree.raise _ _ (hu.congr rfl rfl)

end SameClock

/-- A hand-over and an owed start leave the clocks as they are. -/
theorem Timing.takeDelivery_clocks (tm : Timing) (t : Trunk) (p : Config.Profile) :
    (tm.takeDelivery t p).counter = tm.counter ∧ (tm.takeDelivery t p).now = tm.now
    ∧ (tm.takeDelivery t p).lastStart = tm.lastStart := by
  have howe : (tm.oweStart t p).counter = tm.counter ∧ (tm.oweStart t p).now = tm.now
      ∧ (tm.oweStart t p).lastStart = tm.lastStart := by
    unfold oweStart
    split <;> exact ⟨rfl, rfl, rfl⟩
  unfold takeDelivery
  split
  · split
    · split
      · exact ⟨rfl, rfl, rfl⟩
      · split <;> exact ⟨rfl, rfl, rfl⟩
    · exact howe
  · exact howe

namespace State

variable {s : State}

theorem counter_deliverFrame (s : State) (t : Trunk) (f : WireFrame) (elapsed : Nat) :
    (s.deliverFrame t f elapsed).timing.counter = s.timing.counter := by
  by_cases hlocked : ∃ c miss rem, (s.receiver t).align = .locked c miss rem
  · obtain ⟨c, miss, rem, halign⟩ := hlocked
    have hjudged := s.sameClock_judged t c miss rem f elapsed
    rw [deliverFrame_of_locked f elapsed halign]
    generalize s.judged t c miss rem f elapsed = v at *
    have hword : SameClock (s.passTime elapsed).timing s.straps
        (if t = s.mgmtTrunk then v.takeWord ((frameRecord f (Receiver.trusts miss f)).get 31) else v) := by
      split
      · exact SameClock.keptByRequests.takeWord _ hjudged
      · exact hjudged
    generalize (if t = s.mgmtTrunk then v.takeWord ((frameRecord f (Receiver.trusts miss f)).get 31) else v) = w at *
    obtain ⟨hcounter, hnow, hlast⟩ := w.timing.takeDelivery_clocks t w.profile
    have hfollowed : SameClock (s.passTime elapsed).timing s.straps (w.followDelivery t) :=
      ⟨hcounter.trans hword.counter, hnow.trans hword.now, hlast.trans hword.lastStart, hword.straps⟩
    exact (hfollowed.storeDelivery t _).counter
  · rw [deliverFrame_of_other fun c miss rem halign => hlocked ⟨c, miss, rem, halign⟩]

/-! ### The start, and the commands that make none -/

theorem counter_frameStart (s : State) : s.frameStart.timing.counter = s.timing.counter + 1 := by
  have hsent := SameClock.keptByRequests.transmitStart (SameClock.refl s.settled)
  have hslips : s.frameStart.timing.counter = s.settled.timing.counter := (hsent.repeatSlips s.repeating).counter
  rw [hslips, timing_settled]

/-- Every command of a start makes the start or leaves the part. -/
theorem exec_of_startCommand {i : Instr} (hi : i ∈ startCommands) : ∃ due : Bool, exec i s = .next (if due then s.makeStart else s) := by
  simp only [startCommands, List.mem_cons, List.not_mem_nil, or_false] at hi
  rcases hi with rfl | rfl | rfl | rfl | rfl | rfl
  · exact ⟨true, rfl⟩
  · exact ⟨s.switchDue, rfl⟩
  · exact ⟨s.resumeDue, rfl⟩
  · exact ⟨s.expiryDue, rfl⟩
  · exact ⟨s.timing.holdoverDue, rfl⟩
  · exact ⟨s.renotifyDue, rfl⟩

theorem exec_of_noStart {i : Instr} (hi : i ∈ startCommands) (h : s.makeStart = s) : exec i s = .next s := by
  obtain ⟨due, hexec⟩ := exec_of_startCommand (s := s) hi
  rw [hexec, h, ite_self]

/-- A start moves the counter by one, or there is none. -/
theorem counter_makeStart (s : State) : s.makeStart.timing.counter = s.timing.counter + 1 ∨ s.makeStart = s := by
  unfold makeStart
  split
  · exact .inl s.counter_frameStart
  · exact .inr rfl

theorem counter_of_startCommand {i : Instr} (hi : i ∈ startCommands) :
    ∃ u, exec i s = .next u ∧ (u.timing.counter = s.timing.counter + 1 ∨ u = s) := by
  obtain ⟨due, hexec⟩ := exec_of_startCommand (s := s) hi
  refine ⟨_, hexec, ?_⟩
  split
  · exact s.counter_makeStart
  · exact .inr rfl

end State

/-- A command that is neither a start nor a reset's release leaves the counter. -/
theorem counter_move {s t : State} {i : Instr} (h : Move s i t) (hstart : i ∉ startCommands)
    (hpower : ∀ pins low, i ≠ .powerUp pins low) (hrelease : ∀ pins, i = .resetNRelease pins → s.resetHeld = false) :
    t.timing.counter = s.timing.counter := by
  have hclock := SameClock.refl s
  have hkept : KeptByRequests (SameClock s.timing s.straps) := SameClock.keptByRequests
  cases h with
  | stays => rfl
  | poweredUp pins low => exact absurd rfl (hpower pins low)
  | heldInReset => rfl
  | released pins held => exact nomatch held.symm.trans (hrelease pins rfl)
  | started i start => exact absurd start hstart
  | copied => exact (SameClock.bankFree.copyEngineStep hclock).counter
  | searched t line => exact (hclock.receiverSearches t line).counter
  | verified t line => exact (hclock.receiverVerifies t line).counter
  | examined t window => exact (hclock.receiverAtBoundary t window).counter
  | signalLost t => exact (hclock.receiverSignalLoss t).counter
  | signalReturned t => exact (hclock.receiverSignalReturn t).counter
  | delivered t f elapsed => exact s.counter_deliverFrame t f elapsed
  | roomHandedOut => exact (hkept.handOutRoom hclock).counter
  | noticesOffered => exact (hkept.offerNotices hclock).counter
  | received i r => exact (hkept.receiveRequest r hclock).counter

end Sys2Proof.Machine

open Sys2Proof Sys2Proof.Machine Sys2Proof.Machine.State

/-- Settles O48: each command is a start or makes a move that reads the counter at most; the resets set it. -/
theorem onlyStartsAndResetsMoveTheCounter : Obligations.OnlyStartsAndResetsMoveTheCounter := by
  intro i s isStart
  have hstarts : isStart ↔ i ∈ startCommands := by
    simp only [isStart, startCommands, List.mem_cons, List.not_mem_nil, or_false]
  refine ⟨fun hi => counter_of_startCommand (hstarts.mp hi),
    fun hi hreset => exec_of_noStart (hstarts.mp hi) (makeStart_of_held hreset),
    fun hi hready => exec_of_noStart (hstarts.mp hi) (makeStart_of_unready hready),
    fun hi hreset hready => ⟨s.frameStart, ?_, s.counter_frameStart⟩,
    fun pins low hi => ⟨s.poweredUp pins low, hi ▸ rfl, rfl⟩,
    fun pins hi hreset => ⟨s.released pins, ?_, rfl⟩, fun hi hpower hrelease => ?_⟩
  · rw [hi, ← makeStart_of_ready hreset hready]
    rfl
  · rw [hi]
    exact congrArg Host.Outcome.next (if_pos hreset)
  · obtain ⟨t, hexec, hmove⟩ := exec_move i s
    exact ⟨t, hexec, counter_move hmove (fun h => hi (hstarts.mpr h)) hpower hrelease⟩

end
